-- ==== Sys2Proof/Word.lean ====
section
/-! DEFINITION. The byte of the ports' frames. Every other quantity of this part is a number (`Nat` or `Int`)
or a name (an inductive type): the manual adds, compares and rounds them, and masks only frame bytes. -/

namespace Sys2Proof

/-- One character of a frame (R183). -/
abbrev Byte := BitVec 8

end Sys2Proof
end

