-- ==== Sys2Proof/Config.lean ====
section
/-! DEFINITION. What the manual fixes once for the part (capacities and ranges), and the free values of the model:
the bytes of a reply that carry no meaning, and the figures of an escape jog where no Machine Setup is present. -/

namespace Sys2Proof

/-- Records of the Contour Table (R1). -/
abbrev Config.contours : Nat := 32

/-- Slots of the Process Set Table (R172). -/
abbrev Config.sets : Nat := 8

/-- Slots of the Segment Store (R19). -/
def Config.storeSlots : Nat := 256

/-- The largest stored segment count of a contour (R1, R31). -/
def Config.maxStored : Nat := 200

/-- The most RETAINED segments (R34). -/
def Config.maxRetained : Nat := 32

/-- The largest sequence number (R20). -/
def Config.maxSequence : Nat := 4294967295

/-- Where jet time stops counting, in ms (R109). -/
def Config.maxJetTime : Nat := 4294967295999

/-- Where the pierce count stops (R109). -/
def Config.maxPierceCount : Nat := 4294967295

/-- The length of the frame timer, in ms (R184). -/
def Config.frameTimer : Nat := 20

/-- The longest frame body (R183). -/
def Config.maxBody : Nat := 240

/-- FREE VALUE (entry 8). The value of a reply byte that carries no meaning: a value byte of an absent optional
field (R183), or a field of an alert's detail that its code does not name (R155). Its arguments are the serial
number of the reply and the byte's index in the reply body. -/
opaque Config.unusedByte : Nat → Nat → Byte

/-- FREE VALUE (entry 40). The speed of an escape jog where no Machine Setup gives a jog slow speed (R153); the
argument is the axis, X 0, Y 1, Z 2. -/
opaque Config.unsetJogSpeed : Nat → Nat

/-- FREE VALUE (entry 40). The acceleration of an escape jog where no Machine Setup gives one; the argument is the
axis, X 0, Y 1, Z 2. -/
opaque Config.unsetAcceleration : Nat → Nat

/-- FREE VALUE (entry 40). The length of the keep timer, in ms, where no Machine Setup gives a jog keep. -/
opaque Config.unsetJogKeep : Nat

end Sys2Proof
end

