-- ==== Sys2Proof/Syntax.lean ====
section
/-! DEFINITION. The commands of the part: one constructor of `Instr` for each row of spec/opcode_table.json, with the
row's operands. Request fields are the plain numbers that the request's body carries (R188), before any range check:
the owning block judges them (R183). -/

namespace Sys2Proof

/-- The two message ports. -/
inductive Port where
  | cell | pendant
  deriving DecidableEq, Repr

/-- The three axes, in the order of every list in the manual. -/
inductive Axis where
  | x | y | z
  deriving DecidableEq, Repr

/-- The negative and the positive end or sense of an axis. -/
inductive Side where
  | neg | pos
  deriving DecidableEq, Repr

/-- One value for each axis. -/
structure PerAxis (α : Type) where
  x : α
  y : α
  z : α
  deriving DecidableEq, Repr

/-- The per-axis fields of the Machine Setup, in index order (R178, indices 1 to 11). `encoderReverse` is NO 0, YES 1;
`homeDirection` is NEG 0, POS 1. -/
structure AxisSetup where
  softMin : Int
  softMax : Int
  maxSpeed : Nat
  acceleration : Nat
  followingLimit : Nat
  encoderReverse : Nat
  homeDirection : Nat
  homeSpeed : Nat
  homePosition : Int
  jogSlow : Nat
  jogFast : Nat
  deriving DecidableEq, Repr

/-- The Machine Setup record, in index order (R178). -/
structure MachineSetup where
  axes : PerAxis AxisSetup
  accel : Nat
  accelHold : Nat
  vPathMax : Nat
  vRapid : Nat
  accelRapid : Nat
  zClearance : Int
  probeSpeed : Nat
  probeTravel : Nat
  nominalSurface : Int
  arcTolerance : Nat
  backupReach : Nat
  vBackup : Nat
  pumpMax : Nat
  pressureBand : Nat
  settleLimit : Nat
  dipAllowance : Nat
  abrasiveDelay : Nat
  abrasiveGrace : Nat
  jogKeep : Nat
  jetTimeLimit : Nat
  pierceCountLimit : Nat
  deriving DecidableEq, Repr

/-- The 30 fields of a process set, in index order (R173). -/
structure ProcessSet where
  material : Nat
  thickness : Nat
  vSep : Nat
  qf1 : Nat
  qf2 : Nat
  qf3 : Nat
  qf4 : Nat
  qf5 : Nat
  rFull : Nat
  fa : Nat
  fl : Nat
  cf0 : Nat
  cf1 : Nat
  cf2 : Nat
  cf3 : Nat
  cf4 : Nat
  cf5 : Nat
  vTab : Nat
  vCreep : Nat
  fr : Nat
  pCut : Nat
  pPierce : Nat
  pTab : Nat
  tLow : Nat
  tRamp : Nat
  tDwell : Nat
  tRejoin : Nat
  hPierce : Nat
  hCut : Nat
  backup : Nat
  deriving DecidableEq, Repr

/-- The shape bit of an APPEND entry, with the centre that only an ARC entry carries (R189). -/
inductive EntryShape where
  | line
  | arc (centreX centreY : Int)
  deriving DecidableEq, Repr

/-- One segment entry of an APPEND (R189): the class code of descriptor bits 0 to 2, the shape, the direction bit
(`cw`), and the end point. -/
structure Entry where
  classCode : Nat
  shape : EntryShape
  cw : Bool
  endX : Int
  endY : Int
  deriving DecidableEq, Repr

/-- The commands, one for each row of spec/opcode_table.json. A request carries its port and its tag (R183, R185). -/
inductive Instr where
  | getStatus (port : Port) (tag : Byte)
  | getAxes (port : Port) (tag : Byte)
  | getContour (port : Port) (tag : Byte) (contour : Nat)
  | getSet (port : Port) (tag : Byte) (slot : Nat)
  | getAlert (port : Port) (tag : Byte)
  | releaseAlert (port : Port) (tag : Byte)
  | proposeSet (port : Port) (tag : Byte) (slot : Nat) (fields : ProcessSet)
  | declare (port : Port) (tag : Byte) (contour slot quality pierceMethod surfaceMode : Nat)
  | append (port : Port) (tag : Byte) (contour : Nat) (entries : List Entry)
  | sealContour (port : Port) (tag : Byte) (contour : Nat)
  | clearContour (port : Port) (tag : Byte) (contour : Nat)
  | clearProgram (port : Port) (tag : Byte)
  | writeSetup (port : Port) (tag : Byte) (fields : MachineSetup)
  | setAccumulators (port : Port) (tag : Byte) (seconds pierces : Nat)
  | restart (port : Port) (tag : Byte)
  | approveSet (port : Port) (tag : Byte) (slot proposal : Nat)
  | declineSet (port : Port) (tag : Byte) (slot proposal : Nat)
  | setOverride (port : Port) (tag : Byte) (value : Nat)
  | releaseFault (port : Port) (tag : Byte)
  | hold (port : Port) (tag : Byte)
  | cycleStop (port : Port) (tag : Byte)
  | abort (port : Port) (tag : Byte)
  | cycleStart (port : Port) (tag : Byte)
  | resume (port : Port) (tag : Byte)
  | home (port : Port) (tag : Byte) (axis : Nat)
  | jog (port : Port) (tag : Byte) (axis direction speed : Nat)
  | jogStep (port : Port) (tag : Byte) (axis : Nat) (distance : Int)
  | jogRefresh (port : Port) (tag : Byte)
  | jogStop (port : Port) (tag : Byte)
  /-- A complete request frame given by its code byte and its body (entry 7). -/
  | unknownRequest (port : Port) (tag : Byte) (code : Byte) (body : List Byte)
  | frameTimerExpiry (port : Port)
  | replySent (port : Port)
  /-- The RESET input asserts (`true`) or negates (`false`) (entry 5). -/
  | resetInput (asserted : Bool)
  /-- Power is applied (`false`), or the supply has become good (`true`) (entry 5). -/
  | powerOn (supplyGood : Bool)
  | estopAssert
  | estopNegate
  | limitAssert (axis : Axis) (side : Side)
  | limitNegate (axis : Axis) (side : Side)
  | homeInputAssert (axis : Axis)
  | homeInputNegate (axis : Axis)
  | contactAssert
  | contactNegate
  | abrflowAssert
  | abrflowNegate
  /-- PUMPRDY takes the level given: `false` is the row's own event, `true` the opposite edge (entry 4). -/
  | pumprdyNegate (level : Bool)
  | pfbChange (value : Nat)
  /-- One quadrature count of an encoder, up or down in the sense as wired. -/
  | encoderCount (axis : Axis) (up : Bool)
  | keyModeChange (key1 key0 : Bool)
  | settleTimerExpiry
  | dipTimerExpiry
  | tLowDwellEnd
  | rampTick
  | rampEnd
  | tDwellEnd
  | tRejoinDwellEnd
  | abrasiveDelayExpiry
  | abrasiveGraceExpiry
  | keepTimerExpiry
  | seekTravelLimit
  | jetTimeCount
  | segmentCompletion
  | segmentBoundaryPassed
  | backupTargetReached
  | jetClosePointPassed
  | pathAtRest
  | zMoveComplete
  | zAtRest
  | probeEndOfTravel
  | homingClearAtRest
  | homingSettleAtRest
  | homingReturnAtRest
  | homingStoppedAtRest
  | jogAtRest
  /-- A character arrives; `stopBit` is false where its stop bit is missing. -/
  | characterReceived (port : Port) (char : Byte) (stopBit : Bool)
  | stepPulse (axis : Axis)
  deriving DecidableEq, Repr

end Sys2Proof
end

