-- ==== Sys2Proof/Machine/Arith.lean ====
section
/-! DEFINITION. The arithmetic of 00_scope.md ("Arithmetic"): isqrt, floor, ceil and rounding to nearest on exact
quotients; the exact turn of a vector in binary turns; and the trigonometry of R44 and R72. Every function is
structurally recursive, so that it evaluates. -/

namespace Sys2Proof.Machine

/-- The floor of the square root of `n`, found two bits at a time; `fuel` is at least half the bits of `n`. -/
def isqrtFuel : Nat → Nat → Nat
  | 0, _ => 0
  | fuel + 1, n =>
    let r := 2 * isqrtFuel fuel (n / 4)
    if (r + 1) * (r + 1) ≤ n then r + 1 else r

/-- isqrt: the floor of the exact square root (00_scope.md, Arithmetic). -/
def isqrt (n : Nat) : Nat := isqrtFuel (n.log2 / 2 + 1) n

/-- ceil of the quotient of two naturals. -/
def ceilDiv (a b : Nat) : Nat := (a + b - 1) / b

/-- A natural quotient rounded to nearest, a half upwards. -/
def roundDivNat (a b : Nat) : Nat := (2 * a + b) / (2 * b)

/-- A quotient rounded to nearest, halves away from zero (00_scope.md, Arithmetic). -/
def roundDiv (a : Int) (b : Nat) : Int :=
  if 0 ≤ a then (roundDivNat a.toNat b : Int) else -(roundDivNat (-a).toNat b : Int)

/-- The magnitude of the difference of two naturals. -/
def absDiff (a b : Nat) : Nat := (a - b) + (b - a)

/-- |(x, y)|². -/
def normSq (x y : Int) : Nat := x.natAbs * x.natAbs + y.natAbs * y.natAbs

/-! ### Exact binary turns -/

/-- The angle of (x, y), measured from +X toward +Y in 0 ≤ angle < 1 turn, is half a turn or more. -/
def inLowerHalf (x y : Int) : Bool := y < 0 || (y == 0 && x < 0)

/-- The first `n` binary digits of the angle of (x, y) as a fraction of a turn, with the vector whose angle is what
remains after them. Each digit is the half-plane the vector lies in; squaring the vector as a complex number doubles
its angle, and every product is exact. -/
def turnDigits : Nat → Nat → Int → Int → Nat × Int × Int
  | 0, acc, x, y => (acc, x, y)
  | n + 1, acc, x, y =>
    turnDigits n (2 * acc + (if inLowerHalf x y then 1 else 0)) ((x - y) * (x + y)) (2 * x * y)

/-- A vector along (x, y), divided by the greatest common divisor of its components. -/
def shorten (x y : Int) : Int × Int :=
  let g := Nat.gcd x.natAbs y.natAbs
  if g = 0 then (x, y) else (x / g, y / g)

/-- The floor of the angle of (x, y) in binary turns, and whether the angle is that integer exactly. -/
def angleFloor (x y : Int) : Nat × Bool :=
  let v := shorten x y
  let d := turnDigits 16 0 v.1 v.2
  (d.1, d.2.2 == 0 && 0 < d.2.1)

/-- The angle of (x, y) in binary turns, 0 ≤ angle < 65,536, rounded to nearest (R42). A half never arises. -/
def angleRound (x y : Int) : Nat :=
  let v := shorten x y
  ((turnDigits 17 0 v.1 v.2).1 + 1) / 2

/-! ### Lengths of arcs and points on arcs -/

/-- π to 40 decimal places, times 10^40 (entry 27). -/
def piNumerator : Nat := 31415926535897932384626433832795028841972

/-- The denominator of `piNumerator`. -/
def piDenominator : Nat := 10 ^ 40

/-- 2π·r·sweep/65,536 rounded to nearest (R44, entry 27). -/
def arcLength (r sweep : Nat) : Nat :=
  roundDivNat (2 * piNumerator * r * sweep) (piDenominator * 65536)

/-- The unit of the fixed-point numbers of R72. -/
def fixOne : Nat := 2 ^ 128

/-- How near a half a fixed-point coordinate is taken to be the half (entry 28). -/
def fixTie : Nat := 2 ^ 38

/-- The sum of the terms `k`, `k + 2`, `k + 4`, … of the exponential series of an angle `t` with alternating sign,
from the term `term`, for `fuel` terms. -/
def trigSeries : Nat → Nat → Int → Nat → Int
  | 0, _, _, _ => 0
  | fuel + 1, k, term, t =>
    term + trigSeries fuel (k + 2) (-(term * t * t) / (fixOne * fixOne * (k + 1) * (k + 2) : Nat)) t

/-- Cosine and sine of num/den of a turn, in fixed point: the quarter turns are exact, and the rest of the angle is
below a quarter turn. -/
def cosSin (num den : Nat) : Int × Int :=
  let q := 4 * num / den
  let rest := 4 * num % den
  let t := fixOne * piNumerator * rest / (2 * piDenominator * den)
  let c := trigSeries 24 0 fixOne t
  let s := trigSeries 24 1 t t
  match q % 4 with
  | 0 => (c, s)
  | 1 => (-s, c)
  | 2 => (-c, -s)
  | _ => (s, -c)

/-- A fixed-point number rounded to nearest, halves away from zero; a value within `fixTie` of a half is the half. -/
def roundFix (v : Int) : Int :=
  let n := (v.natAbs + fixOne / 2 + fixTie) / fixOne
  if 0 ≤ v then (n : Int) else -(n : Int)

end Sys2Proof.Machine
end

