-- ==== Sys2Proof/Machine/State.lean ====
section
/-! DEFINITION. The state of the part, block by block, as plain data; how a step can end; and the state right after
reset. Fields marked MODEL are the model's own (INVENTORY.md, State). -/

namespace Sys2Proof.Machine

/-- The part never stops: its faults are the machine state FAULT (R149) and refused requests are reply statuses
(R190). No meaning raises a fault, so there is none to name. -/
inductive Fault
  deriving DecidableEq, Repr

/-- Why a command has no next state. -/
inductive Refusal where
  /-- Raised by `exec` alone, for a command that has no meaning yet. Safe: the machine stops. -/
  | notModelled (mnemonic : String)
  deriving DecidableEq, Repr

/-! ### Per-axis values -/

end Sys2Proof.Machine

namespace Sys2Proof

/-- The value of one axis. -/
def PerAxis.get {α : Type} (p : PerAxis α) : Axis → α
  | .x => p.x
  | .y => p.y
  | .z => p.z

/-- The same values with that of one axis replaced. -/
def PerAxis.set {α : Type} (p : PerAxis α) (a : Axis) (v : α) : PerAxis α :=
  match a with
  | .x => { p with x := v }
  | .y => { p with y := v }
  | .z => { p with z := v }

end Sys2Proof

namespace Sys2Proof.Machine

/-! ### Names -/

/-- The machine states, in the order of the introduction's table (R183 numbers them from 0). -/
inductive MachineState where
  | unconfigured | idle | homing | jogging | running | holding | held | resuming | fault
  deriving DecidableEq, Repr

/-- The cycle phases (R111). -/
inductive Phase where
  | wait | approach | probe | pierce | cut | retract
  deriving DecidableEq, Repr

/-- The key modes (R187). -/
inductive KeyMode where
  | production | setup | service
  deriving DecidableEq, Repr

/-- The causes of a hold (R128). -/
inductive HoldCause where
  | request | pressureSettle | pressureDip | abrasive | pump | noSurface | key
  deriving DecidableEq, Repr

/-- The steps of a resume (R128). -/
inductive ResumeStep where
  | backup | kerfStart | rejoin
  deriving DecidableEq, Repr

/-- The jet states (R91). -/
inductive JetState where
  | closed | low | ramp | cut | tab
  deriving DecidableEq, Repr

/-- The pierce methods (R1). -/
inductive PierceMethod where
  | static | creep | drilled
  deriving DecidableEq, Repr

/-- The surface modes (R1). -/
inductive SurfaceMode where
  | probe | carry
  deriving DecidableEq, Repr

/-- The statuses of a contour record that is not FREE (R1). -/
inductive ContourStatus where
  | loading | sealed | active | done | abandoned
  deriving DecidableEq, Repr

/-- The abandon reasons (R1). -/
inductive AbandonReason where
  | abort | following | limit | estop | collision
  deriving DecidableEq, Repr

/-- The classes of a segment (R22). -/
inductive SegClass where
  | traverse | leadin | cut | tab | leadout
  deriving DecidableEq, Repr

/-- The states of a segment (R23 to R26). -/
inductive SegState where
  | loaded | planned | active | retained
  deriving DecidableEq, Repr

/-- The senses of an arc (R22). -/
inductive ArcDir where
  | ccw | cw
  deriving DecidableEq, Repr

/-- The senses of the cursor (R71). -/
inductive CursorDir where
  | forward | reverse
  deriving DecidableEq, Repr

/-- The steps of homing (R159). -/
inductive HomingStep where
  | clear | seek | settle | ret
  deriving DecidableEq, Repr

/-- The kinds of a jog (R159). -/
inductive JogKind where
  | continuous | step
  deriving DecidableEq, Repr

/-- The wear accumulators (R155). -/
inductive Accumulator where
  | jetTime | pierceCount
  deriving DecidableEq, Repr

/-- The alert codes (R155), in their numbering. -/
inductive AlertCode where
  | pressureSettle | pressureDip | abrasive | pump | noSurface | key | following | limit | estop | collision
  | wear | homeFailed
  deriving DecidableEq, Repr

/-- The reply statuses (R190), in their numbering. -/
inductive Status where
  | ok | notPermitted | wrongState | unknownRequest | malformed | range | inconsistent | noSuch | inUse
  | notApproved | superseded | setConflict | storeFull | contourTooLong | order | arcMismatch | radius
  | outOfLimits | noCut | creepShort | notHomed | runListEmpty | pumpNotReady | causePresent | wearLimit
  deriving DecidableEq, Repr

/-- The states of a receiver (R184). -/
inductive RxState where
  | hunt | frame | check
  deriving DecidableEq, Repr

/-- The service states of a port (R185). -/
inductive Service where
  | ready | serving
  deriving DecidableEq, Repr

/-- A timer: stopped, or running for the length it was started with, in ms (entry 20). -/
inductive Timer where
  | stopped
  | running (ms : Nat)
  deriving DecidableEq, Repr

/-! ### Geometry and the Segment Store -/

/-- A point or a vector in the XY plane, in µm. -/
structure Point where
  x : Int
  y : Int
  deriving DecidableEq, Repr

/-- The shape of a stored segment, with the fields that an ARC holds (R22). -/
inductive Shape where
  | line
  | arc (dir : ArcDir) (centre : Point) (radius sweep : Nat)
  deriving DecidableEq, Repr

/-- The in-tangent and the out-tangent of a segment (R22). -/
structure Tangents where
  inward : Point
  outward : Point
  deriving DecidableEq, Repr

/-- The planned fields of a jet segment (R22), written at SEAL (R51). -/
structure Plan where
  vMax : Nat
  entry : Nat
  exit : Nat
  cruise : Nat
  accDist : Nat
  rampDown : Nat
  time : Nat
  deriving DecidableEq, Repr

/-- A stored segment (R22). -/
structure Segment where
  seq : Nat
  contour : Fin Config.contours
  cls : SegClass
  shape : Shape
  start : Option Point
  finish : Point
  length : Option Nat
  tangents : Option Tangents
  plan : Option Plan
  state : SegState
  deriving DecidableEq, Repr

/-- A position on a contour: a segment's sequence number and a distance into it (R71, R128). -/
structure Pos where
  seq : Nat
  dist : Nat
  deriving DecidableEq, Repr

/-! ### The Program Store -/

/-- A contour record that is not FREE (R1). A FREE record holds nothing else and is `none` in the table. -/
structure Contour where
  status : ContourStatus
  slot : Fin Config.sets
  quality : Nat
  method : PierceMethod
  surfaceMode : SurfaceMode
  stored : Nat
  jets : Nat
  plannedLength : Option Nat
  plannedTime : Option Nat
  sealOrder : Option Nat
  completed : Nat
  lengthDone : Nat
  pierceComplete : Bool
  holds : Nat
  surfaceZ : Option Int
  abandonReason : Option AbandonReason
  deriving DecidableEq, Repr

/-- The Program Store: Contour Table, Run List (head first), Segment Store (oldest first), next sequence number and
seal counter (R1, R7, R9, R19, R20). -/
structure ProgramStore where
  contours : Vector (Option Contour) Config.contours
  runList : List (Fin Config.contours)
  segments : List Segment
  nextSeq : Nat
  sealCounter : Nat
  deriving DecidableEq, Repr

/-! ### The Setup Store -/

/-- What a slot of the Process Set Table holds: EMPTY, or fields that are PROPOSED or APPROVED (R172). -/
inductive SetContent where
  | empty
  | proposed (fields : ProcessSet)
  | approved (fields : ProcessSet)
  deriving DecidableEq, Repr

/-- A slot of the Process Set Table (R172). -/
structure SetSlot where
  number : Nat
  content : SetContent
  deriving DecidableEq, Repr

/-- The Setup Store (R172, R178). -/
structure SetupStore where
  setup : Option MachineSetup
  sets : Vector SetSlot Config.sets
  deriving DecidableEq, Repr

/-! ### The Cycle Controller -/

/-- The hold record (R128). -/
structure HoldRecord where
  cause : HoldCause
  phase : Phase
  jetClose : Option Pos
  stop : Option Pos
  rejoin : Option Pos
  step : Option ResumeStep
  deriving DecidableEq, Repr

/-- A fault cause: its code with the detail it names (R147, R151). -/
inductive FaultCause where
  | following (axis : Axis)
  | limit (axis : Axis) (side : Side)
  | estop
  | collision
  deriving DecidableEq, Repr

/-- The Cycle Controller's items of R111, with the fault cause of R151. -/
structure CycleController where
  mstate : MachineState
  phase : Option Phase
  active : Option (Fin Config.contours)
  surface : Option Int
  cycleStop : Bool
  suspension : Bool
  abortPending : Bool
  reqOverride : Nat
  hold : Option HoldRecord
  deferredHold : Bool
  faultCause : Option FaultCause
  deriving DecidableEq, Repr

/-- MODEL. Why the homing axis is decelerating: not at all, at the end of CLEAR (R161), or because the homing has
failed or was given up (R164, R165). -/
inductive HomingStop where
  | none | clearing | givenUp
  deriving DecidableEq, Repr

/-- The homing items of R159. -/
structure Homing where
  axis : Option Axis
  step : Option HomingStep
  remaining : List Axis
  travel : Nat
  stop : HomingStop
  deriving DecidableEq, Repr

/-- The jog items of R159. -/
structure Jog where
  axis : Option Axis
  kind : Option JogKind
  direction : Option Side
  speed : Option Nat
  target : Option Int
  keep : Timer
  stopping : Bool
  /-- MODEL. A JOG_STEP has found its axis moving, which first decelerates (R169, entry 44). -/
  slowing : Bool
  deriving DecidableEq, Repr

/-! ### The Profile Generator and the Axis Channels -/

/-- MODEL. The path motion under way: none, along the path, or hold deceleration (R73, R76, R79). -/
inductive PathMotion where
  | rest | run | decel
  deriving DecidableEq, Repr

/-- The Profile Generator's items of R71. The path speed is held as its square, in which a rise or a fall at an
acceleration is exact; in whole µm/s it is `ProfileGenerator.speed` (entry 17). -/
structure ProfileGenerator where
  cursor : Option Pos
  dir : CursorDir
  speedSq : Nat
  override : Nat
  motion : PathMotion
  deriving DecidableEq, Repr

/-- An Axis Channel (R81, R87). The deviation is `Channel.deviation`. `dir` is the DIR output (R82); `speedSq`
is MODEL, the square of the axis's present speed in a Z move, homing or a jog (entry 18). -/
structure Channel where
  command : Int
  encoder : Int
  latch : Option Int
  homed : Bool
  dir : Side
  speedSq : Nat
  deriving DecidableEq, Repr

/-- MODEL. What a Z move is for, and so what its completion begins (R114, R115, R118, R120, R138). -/
inductive ZPurpose where
  | approach | reprobe | pierceRise | pierceStep | retract
  deriving DecidableEq, Repr

/-- MODEL. The Z motion under way (R89, R90): none, a move to a target, the probe descent, its deceleration after a
contact, or a deceleration ordered by a hold or an ABORT, of a move with a target or of a descent. -/
inductive ZMotion where
  | rest
  | moving (target : Int) (purpose : ZPurpose)
  | probing (target : Int)
  | contactStop
  | stopMove (target : Int)
  | stopProbe
  deriving DecidableEq, Repr

/-! ### The Jet Controller -/

/-- The pierce timer (R91): stopped, or timing a T_low dwell, the ramp, a T_dwell dwell or a T_rejoin dwell of `ms`.
The ramp counts the ms elapsed, from which R99 forms the demand. -/
inductive PierceTimer where
  | stopped
  | tLow (ms : Nat)
  | ramp (elapsed ms : Nat)
  | tDwell (ms : Nat)
  | tRejoin (ms : Nat)
  deriving DecidableEq, Repr

/-- The Jet Controller's items of R91. `bandIn` is the band state IN; `pierceStep` is the number of the step in
R104 to R106; `abrasiveWatch` is MODEL: negations of ABRFLOW are timed (R100). -/
structure Jet where
  state : JetState
  demand : Nat
  bandIn : Bool
  settle : Timer
  dip : Timer
  dipWatch : Bool
  pierceStep : Option Nat
  pierceTimer : PierceTimer
  abrasiveDelay : Timer
  abrasiveGrace : Timer
  abrasiveWatch : Bool
  jetTime : Nat
  pierceCount : Nat
  wearJetTime : Bool
  wearPierceCount : Bool
  deriving DecidableEq, Repr

/-! ### The Alert Unit -/

/-- The five detail fields of an alert; a code fills those it names (R155). -/
structure AlertDetail where
  axis : Option Axis := none
  side : Option Side := none
  accumulator : Option Accumulator := none
  jetState : Option JetState := none
  demand : Option Nat := none
  deriving DecidableEq, Repr

/-- A full alert record (R155). -/
structure AlertRecord where
  code : AlertCode
  detail : AlertDetail
  contour : Option (Fin Config.contours)
  position : Option Pos
  mstate : MachineState
  further : Nat
  latest : Option AlertCode
  isStatic : Bool
  deriving DecidableEq, Repr

/-! ### Ports and lines -/

/-- A reply: its tag, its status and its body, the reply header included (R183). -/
structure Reply where
  tag : Byte
  status : Status
  body : List Byte
  deriving DecidableEq, Repr

/-- One port: its receiver with the bytes of the frame so far, start mark included (R184), its service state and the
reply being sent (R185). -/
structure PortState where
  rx : RxState
  bytes : List Byte
  timer : Timer
  service : Service
  reply : Option Reply
  deriving DecidableEq, Repr

/-- The two ports, the key mode of the Access Check (R187), the pending RESTART (R193), and MODEL: the serial number of
the next reply (entry 8). -/
structure Ports where
  cell : PortState
  pendant : PortState
  keyMode : KeyMode
  restartPending : Bool
  serial : Nat
  deriving DecidableEq, Repr

/-- The two limit inputs of an axis. -/
structure LimitLevels where
  neg : Bool
  pos : Bool
  deriving DecidableEq, Repr

/-- The levels of the input lines; `true` is asserted. -/
structure Lines where
  estop : Bool
  limits : PerAxis LimitLevels
  homes : PerAxis Bool
  contact : Bool
  abrflow : Bool
  pumprdy : Bool
  pfb : Nat
  key1 : Bool
  key0 : Bool
  reset : Bool
  supplyGood : Bool
  deriving DecidableEq, Repr

/-! ### The whole state -/

/-- The state of the part, with the queue of commands that wait (entry 1). -/
structure State where
  pending : List Instr
  lines : Lines
  ports : Ports
  prog : ProgramStore
  setups : SetupStore
  cyc : CycleController
  homing : Homing
  jog : Jog
  path : ProfileGenerator
  axes : PerAxis Channel
  zmotion : ZMotion
  jet : Jet
  alert : Option AlertRecord
  deriving DecidableEq, Repr

/-! ### Values after reset (R194) -/

/-- A port after reset (R184, R185). -/
def PortState.reset : PortState :=
  { rx := .hunt, bytes := [], timer := .stopped, service := .ready, reply := none }

/-- The key mode that the key lines give, where the switch is not between positions (R187). -/
def KeyMode.decode (key1 key0 : Bool) : Option KeyMode :=
  match key1, key0 with
  | false, false => some .production
  | false, true => some .setup
  | true, false => some .service
  | true, true => none

/-- The ports and the Access Check after reset: the key mode is read from the lines, and is PRODUCTION where the
switch is between positions (R187). -/
def Ports.reset (l : Lines) : Ports :=
  { cell := .reset, pendant := .reset, keyMode := (KeyMode.decode l.key1 l.key0).getD .production,
    restartPending := false, serial := 0 }

/-- The Program Store after reset (R1, R7, R9, R19, R20). -/
def ProgramStore.reset : ProgramStore :=
  { contours := Vector.replicate _ none, runList := [], segments := [], nextSeq := 1, sealCounter := 0 }

/-- The Setup Store after reset (R172, R178). -/
def SetupStore.reset : SetupStore :=
  { setup := none, sets := Vector.replicate _ { number := 0, content := .empty } }

/-- The Cycle Controller after reset (R111, R128, R151). -/
def CycleController.reset : CycleController :=
  { mstate := .unconfigured, phase := none, active := none, surface := none, cycleStop := false,
    suspension := false, abortPending := false, reqOverride := 100, hold := none, deferredHold := false,
    faultCause := none }

/-- The homing items after reset (R159). -/
def Homing.reset : Homing :=
  { axis := none, step := none, remaining := [], travel := 0, stop := .none }

/-- The jog items after reset (R159). -/
def Jog.reset : Jog :=
  { axis := none, kind := none, direction := none, speed := none, target := none, keep := .stopped,
    stopping := false, slowing := false }

/-- The override that acts: capped at 50 in SETUP (R77). -/
def KeyMode.cap (k : KeyMode) (requested : Nat) : Nat :=
  match k with
  | .setup => min requested 50
  | .production | .service => requested

/-- The Profile Generator after reset (R71), its effective override formed from 100 and the key mode (R77). -/
def ProfileGenerator.reset (k : KeyMode) : ProfileGenerator :=
  { cursor := none, dir := .forward, speedSq := 0, override := k.cap 100, motion := .rest }

/-- An Axis Channel after reset (R81, R87). -/
def Channel.reset : Channel :=
  { command := 0, encoder := 0, latch := none, homed := false, dir := .pos, speedSq := 0 }

/-- The Jet Controller after reset (R91). -/
def Jet.reset : Jet :=
  { state := .closed, demand := 0, bandIn := false, settle := .stopped, dip := .stopped, dipWatch := false,
    pierceStep := none, pierceTimer := .stopped, abrasiveDelay := .stopped, abrasiveGrace := .stopped,
    abrasiveWatch := false, jetTime := 0, pierceCount := 0, wearJetTime := false, wearPierceCount := false }

/-- Every item of the part at its value after reset (R194), with the lines and the queue as they stand (entries 3
and 35). -/
def State.resetWith (l : Lines) (queue : List Instr) : State :=
  { pending := queue
    lines := l
    ports := .reset l
    prog := .reset
    setups := .reset
    cyc := .reset
    homing := .reset
    jog := .reset
    path := .reset (Ports.reset l).keyMode
    axes := { x := .reset, y := .reset, z := .reset }
    zmotion := .rest
    jet := .reset
    alert := none }

/-- The lines as the model finds them at its first step (entry 3): every input negated, PFB 0, RESET negated, the
supply good. -/
def Lines.quiet : Lines :=
  { estop := false
    limits := { x := ⟨false, false⟩, y := ⟨false, false⟩, z := ⟨false, false⟩ }
    homes := { x := false, y := false, z := false }
    contact := false
    abrflow := false
    pumprdy := false
    pfb := 0
    key1 := false
    key0 := false
    reset := false
    supplyGood := true }

/-- The part right after reset. -/
def State.reset : State := State.resetWith .quiet []

end Sys2Proof.Machine
end

