-- ==== Sys2Proof/Machine/Geometry.lean ====
section
/-! DEFINITION. The Geometry Unit (03_path_geometry.md, R38 to R48) and the points of the path (R72). -/

namespace Sys2Proof.Machine

/-- The difference of two points. -/
def Point.sub (a b : Point) : Point := ⟨a.x - b.x, a.y - b.y⟩

/-- isqrt(|v|²), the length of a vector as R40, R41 and R48 take it. -/
def Point.norm (v : Point) : Nat := isqrt (normSq v.x v.y)

/-- The dot product. -/
def Point.dot (u v : Point) : Int := u.x * v.x + u.y * v.y

/-- `lo ≤ v ≤ hi`. -/
def within (lo v hi : Int) : Bool := lo ≤ v && v ≤ hi

/-- A point inside the X and Y soft-limit windows; both ends of each window belong to it (section 3.4). -/
def inWindows (m : MachineSetup) (p : Point) : Bool :=
  within m.axes.x.softMin p.x m.axes.x.softMax && within m.axes.y.softMin p.y m.axes.y.softMax

/-- A vector as a complex number times the conjugate of another: its angle is the angle from `u` to `v`,
counter-clockwise. -/
def turnVector (u v : Point) : Point := ⟨v.x * u.x + v.y * u.y, v.y * u.x - v.x * u.y⟩

/-- The vector whose angle is the angle from `u` to `v` in the given direction. -/
def turnIn (d : ArcDir) (u v : Point) : Point :=
  match d with
  | .ccw => turnVector u v
  | .cw => turnVector v u

/-- The stored sweep of R42 for radius vectors `u` (to the start) and `v` (to the end): 65,536 where they are equal,
otherwise the exact angle rounded to nearest and capped at 65,535. -/
def arcSweep (d : ArcDir) (u v : Point) : Nat :=
  if u = v then 65536
  else
    let t := turnIn d u v
    min (angleRound t.x t.y) 65535

/-- The tangents of an arc (R45): at right angles to the radius at each end, along the travel. -/
def arcTangent (d : ArcDir) (u : Point) : Point :=
  match d with
  | .ccw => ⟨-u.y, u.x⟩
  | .cw => ⟨u.y, -u.x⟩

/-- The direction `e` lies within the sweep from the radius vector `u` (R47): its exact offset is no greater than
the stored sweep. -/
def withinSweep (d : ArcDir) (u e : Point) (sweep : Nat) : Bool :=
  if 65536 ≤ sweep then true
  else
    let t := turnIn d u e
    let f := angleFloor t.x t.y
    f.1 < sweep || (f.1 == sweep && f.2)

/-- The axis extremes of a circle, as directions and points (R47). -/
def axisExtremes (c : Point) (r : Nat) : List (Point × Point) :=
  [(⟨1, 0⟩, ⟨c.x + r, c.y⟩), (⟨0, 1⟩, ⟨c.x, c.y + r⟩), (⟨-1, 0⟩, ⟨c.x - r, c.y⟩), (⟨0, -1⟩, ⟨c.x, c.y - r⟩)]

/-- Every axis extreme within the sweep lies inside the windows (R47). -/
def extremesInside (m : MachineSetup) (d : ArcDir) (c u : Point) (r sweep : Nat) : Bool :=
  (axisExtremes c r).all fun e => !withinSweep d u e.1 sweep || inWindows m e.2

/-- What the Geometry Unit hands to the Program Store (R38). -/
structure Computed where
  shape : Shape
  start : Option Point
  finish : Point
  length : Option Nat
  tangents : Option Tangents
  deriving DecidableEq, Repr

/-- A LINE from `s` to `e` (R40). -/
def computeLine (s e : Point) : Computed :=
  let d := e.sub s
  { shape := .line, start := some s, finish := e, length := some d.norm, tangents := some ⟨d, d⟩ }

/-- The first TRAVERSE of a contour, which has no start point (R39). -/
def computeFirst (e : Point) : Computed :=
  { shape := .line, start := none, finish := e, length := none, tangents := none }

/-- Test 5 of R38 on a segment that is a LINE: the end point inside the windows (R46). -/
def checkedLine (m : MachineSetup) (g : Computed) : Except Status Computed :=
  if inWindows m g.finish then .ok g else .error .outOfLimits

/-- An ARC from `s` to `e` about `c` (R41 to R47): tests 2 to 5 of R38, and the conversions to a LINE of R43. -/
def computeArc (m : MachineSetup) (d : ArcDir) (s c e : Point) : Except Status Computed :=
  if !(within (-16000000) c.x 16000000 && within (-16000000) c.y 16000000) then .error .radius
  else
    let u := s.sub c
    let v := e.sub c
    let r := u.norm
    let rE := v.norm
    if m.arcTolerance < absDiff r rE then .error .arcMismatch
    else if r < 100 || 4000000 < r || rE < 100 || 4000000 < rE then .error .radius
    else
      let sweep := arcSweep d u v
      let len := arcLength r sweep
      if sweep = 0 || len = 0 then checkedLine m (computeLine s e)
      else if inWindows m e && extremesInside m d c u r sweep then
        .ok { shape := .arc d c r sweep, start := some s, finish := e, length := some len,
              tangents := some ⟨arcTangent d u, arcTangent d v⟩ }
      else .error .outOfLimits

/-- The geometry step (R38): test 1, then the entry as a first TRAVERSE, a LINE or an ARC. A TRAVERSE is computed as a
LINE whatever its shape (R39). -/
def computeEntry (m : MachineSetup) (cls : SegClass) (en : Entry) (start : Option Point) : Except Status Computed :=
  let e : Point := ⟨en.endX, en.endY⟩
  if !(within (-8000000) e.x 8000000 && within (-8000000) e.y 8000000) then .error .outOfLimits
  else
    match start with
    | none => checkedLine m (computeFirst e)
    | some s =>
      match cls, en.shape with
      | .traverse, _ | _, .line => checkedLine m (computeLine s e)
      | _, .arc cx cy => computeArc m (if en.cw then .cw else .ccw) s ⟨cx, cy⟩ e

/-- The constants k_b of the bands 0 to 4 (R48). -/
def bandConstants : List Int := [1020, 887, 512, 0, -724]

/-- The deflection band of a junction (R48): the first b in 0..4 with 1024·D ≥ k_b·Lu·Lv, and 5 where there is
none. -/
def deflectionBand (u v : Point) : Nat :=
  bandConstants.findIdx fun k => k * u.norm * v.norm ≤ 1024 * u.dot v

/-! ### Points of the path (R72) -/

/-- The coordinate at distance `d` on a LINE of length `len` between `s` and `e`, rounded to nearest. -/
def lineCoord (s e : Int) (d len : Nat) : Int :=
  if len = 0 then s else roundDiv (s * len + (e - s) * d) len

/-- The point at distance `d` on an arc that starts at `s`, by the formula of R72 (entry 28). -/
def arcPoint (dir : ArcDir) (s c : Point) (r sweep d len : Nat) : Point :=
  let cs := cosSin (sweep * d) (65536 * len)
  let si := match dir with | .ccw => cs.2 | .cw => -cs.2
  let u := s.sub c
  let n := isqrt (normSq u.x u.y * fixOne * fixOne)
  ⟨roundFix (c.x * fixOne + (u.x * cs.1 - u.y * si) * r * fixOne / n),
   roundFix (c.y * fixOne + (u.x * si + u.y * cs.1) * r * fixOne / n)⟩

/-- The point of the path at distance `d` on a segment (R72). A segment with no start point yet has only its end. -/
def Segment.pointAt (g : Segment) (d : Nat) : Point :=
  match g.start, g.length with
  | some s, some len =>
    if d = 0 then s
    else if len ≤ d then g.finish
    else
      match g.shape with
      | .line => ⟨lineCoord s.x g.finish.x d len, lineCoord s.y g.finish.y d len⟩
      | .arc dir c r sweep => arcPoint dir s c r sweep d len
  | _, _ => g.finish

end Sys2Proof.Machine
end

