-- ==== Sys2Proof/Machine/Planner.lean ====
section
/-! DEFINITION. The Feed Planner (04_feed_planning.md, R51 to R68). -/

namespace Sys2Proof.Machine

/-- QF[q] of a process set (R53). -/
def ProcessSet.qf (f : ProcessSet) : Nat → Nat
  | 1 => f.qf1
  | 2 => f.qf2
  | 3 => f.qf3
  | 4 => f.qf4
  | _ => f.qf5

/-- CF[b] of a process set (R58). -/
def ProcessSet.cf (f : ProcessSet) : Nat → Nat
  | 0 => f.cf0
  | 1 => f.cf1
  | 2 => f.cf2
  | 3 => f.cf3
  | 4 => f.cf4
  | _ => f.cf5

/-- The quality speed Vq (R53). -/
def qualitySpeed (f : ProcessSet) (q : Nat) : Nat := f.vSep * ProcessSet.qf f q / 1024

/-- The limit of a CUT on a shape (R54). -/
def cutLimit (f : ProcessSet) (vq : Nat) : Shape → Nat
  | .line => vq
  | .arc _ _ r _ => if r < f.rFull then min vq (max (vq * r / f.rFull) (vq * f.fa / 1024)) else vq

/-- The limit of a LEADIN or LEADOUT on a shape (R55). -/
def leadLimit (f : ProcessSet) (vq : Nat) : Shape → Nat
  | .line => vq * f.fl / 1024
  | sh => min (vq * f.fl / 1024) (cutLimit f vq sh)

/-- The speed limit of a jet segment before R57 (R54 to R56). -/
def classLimit (f : ProcessSet) (vq : Nat) (cls : SegClass) (sh : Shape) : Nat :=
  match cls with
  | .leadin | .leadout => leadLimit f vq sh
  | .tab => f.vTab
  | .cut | .traverse => cutLimit f vq sh

/-- Vmax of a jet segment (R57). -/
def segmentLimit (f : ProcessSet) (m : MachineSetup) (vq : Nat) (g : Segment) : Nat :=
  max 1 (min (classLimit f vq g.cls g.shape) m.vPathMax)

/-- The junction limit Vj between two jet segments of limits `va` and `vb` (R58). -/
def junctionLimit (f : ProcessSet) (a b : Segment) (va vb : Nat) : Nat :=
  match a.tangents, b.tangents with
  | some ta, some tb => min va vb * ProcessSet.cf f (deflectionBand ta.outward tb.inward) / 1024
  | _, _ => 0

/-- What the two passes read of a segment: its length, its Vmax, and the junction limit before it, which is 0 for the
first segment (R52, R60). -/
structure PassItem where
  length : Nat
  vMax : Nat
  before : Nat
  deriving DecidableEq, Repr

/-- The pass items of a jet run, given the segment before it with its limit, if any (R58, R60). -/
def passItems (f : ProcessSet) (m : MachineSetup) (vq : Nat) : Option (Segment × Nat) → List Segment → List PassItem
  | _, [] => []
  | prev, g :: rest =>
    let v := segmentLimit f m vq g
    let j := match prev with
      | none => 0
      | some (p, vp) => junctionLimit f p g vp v
    { length := g.length.getD 0, vMax := v, before := j } :: passItems f m vq (some (g, v)) rest

/-- The backward pass (R60): the entry and exit speed of each segment, from the last to the first. -/
def backwardPass (a : Nat) : List PassItem → List (Nat × Nat)
  | [] => []
  | p :: rest =>
    let tail := backwardPass a rest
    let exit := match tail with
      | [] => 0
      | t :: _ => t.1
    (min p.before (min p.vMax (isqrt (exit * exit + 2 * a * p.length))), exit) :: tail

/-- The forward pass (R61), from the segment whose entry speed is `entry`. -/
def forwardPass (a : Nat) : Nat → List (PassItem × Nat × Nat) → List (Nat × Nat)
  | _, [] => []
  | entry, (p, _, x) :: rest =>
    let exit := min x (isqrt (entry * entry + 2 * a * p.length))
    (entry, exit) :: forwardPass a exit rest

/-- The entry and exit speeds of a jet run after both passes. -/
def passSpeeds (a : Nat) (items : List PassItem) : List (Nat × Nat) :=
  let back := backwardPass a items
  forwardPass a (match back with | [] => 0 | b :: _ => b.1) (items.zip back)

/-- The cruise speed Vc (R63). -/
def cruiseSpeed (a len vMax entry exit : Nat) : Nat :=
  min vMax (isqrt ((2 * a * len + entry * entry + exit * exit) / 2))

/-- The profile and planned time of a jet segment (R63 to R65). -/
def segmentPlan (a : Nat) (p : PassItem) (speeds : Nat × Nat) : Plan :=
  let entry := speeds.1
  let exit := speeds.2
  let vc := cruiseSpeed a p.length p.vMax entry exit
  let dd := ceilDiv (vc * vc - exit * exit) (2 * a)
  let rampDown := p.length - dd
  let da := min (ceilDiv (vc * vc - entry * entry) (2 * a)) rampDown
  { vMax := p.vMax, entry := entry, exit := exit, cruise := vc, accDist := da, rampDown := rampDown
    time := roundDivNat (1000 * ((vc - entry + (vc - exit)) * vc + (p.length - da - dd) * a)) (a * vc) }

/-- The plans of a jet run, in store order (R51). -/
def planRun (f : ProcessSet) (m : MachineSetup) (quality : Nat) (run : List Segment) : List Plan :=
  let items := passItems f m (qualitySpeed f quality) none run
  (items.zip (passSpeeds m.accel items)).map fun i => segmentPlan m.accel i.1 i.2

/-- The creep distance (R67). -/
def creepDistance (f : ProcessSet) : Nat := f.vCreep * f.tRamp / 1000

/-- The envelope E(s) of a jet segment of length `len` (R68). -/
def envelope (a : Nat) (p : Plan) (len s : Nat) : Nat :=
  min p.cruise (min (isqrt (p.entry * p.entry + 2 * a * s)) (isqrt (p.exit * p.exit + 2 * a * (len - s))))

/-- The scaled envelope (R68). -/
def scaledEnvelope (a ov : Nat) (p : Plan) (len s : Nat) : Nat := envelope a p len s * ov / 100

/-- The rejoin limit Vrejoin (R143). -/
def rejoinLimit (f : ProcessSet) (quality : Nat) : Nat := max 1 (qualitySpeed f quality * f.fr / 1024)

end Sys2Proof.Machine
end

