-- ==== Sys2Proof/Machine/Ops.lean ====
section
/-! DEFINITION. The named operations over the state that several commands share: the updates of its parts, the
records and segments of the Program Store, the alert record (R156), the pressure demand and the closing of the jet
(R92 to R96), taking a hold (R129, R133, R134), giving up a contour (R12, R13), the fault action (R149) with the fault
cause (R151), and the counters of an axis (R81 to R85). -/

namespace Sys2Proof.Machine

/-! ### Updates of the parts of the state -/

/-- Replace the lines. -/
def State.onLines (f : Lines → Lines) (s : State) : State := { s with lines := f s.lines }
/-- Replace the ports. -/
def State.onPorts (f : Ports → Ports) (s : State) : State := { s with ports := f s.ports }
/-- Replace the Program Store. -/
def State.onProg (f : ProgramStore → ProgramStore) (s : State) : State := { s with prog := f s.prog }
/-- Replace the Setup Store. -/
def State.onSetups (f : SetupStore → SetupStore) (s : State) : State := { s with setups := f s.setups }
/-- Replace the Cycle Controller's items. -/
def State.onCyc (f : CycleController → CycleController) (s : State) : State := { s with cyc := f s.cyc }
/-- Replace the homing items. -/
def State.onHoming (f : Homing → Homing) (s : State) : State := { s with homing := f s.homing }
/-- Replace the jog items. -/
def State.onJog (f : Jog → Jog) (s : State) : State := { s with jog := f s.jog }
/-- Replace the Profile Generator's items. -/
def State.onPath (f : ProfileGenerator → ProfileGenerator) (s : State) : State := { s with path := f s.path }
/-- Replace the Axis Channels. -/
def State.onAxes (f : PerAxis Channel → PerAxis Channel) (s : State) : State := { s with axes := f s.axes }
/-- Replace the Z motion. -/
def State.setZ (z : ZMotion) (s : State) : State := { s with zmotion := z }
/-- Replace the Jet Controller's items. -/
def State.onJet (f : Jet → Jet) (s : State) : State := { s with jet := f s.jet }
/-- Replace the alert record. -/
def State.setAlert (a : Option AlertRecord) (s : State) : State := { s with alert := a }

/-- The part is held in reset: RESET is asserted or the supply is not good (R194). -/
def Lines.held (l : Lines) : Bool := l.reset || !l.supplyGood

/-- Run an operation, unless the part is held in reset (R194). -/
def live (f : State → State) (s : State) : State := if s.lines.held then s else f s

/-! ### Machine Setup, process sets and contour records -/

/-- Run an operation with the Machine Setup; without one nothing happens (entry 36). -/
def withSetup (f : MachineSetup → State → State) (s : State) : State :=
  match s.setups.setup with
  | none => s
  | some m => f m s

/-- The field values a slot holds (R172). -/
def SetSlot.fields (t : SetSlot) : Option ProcessSet :=
  match t.content with
  | .empty => none
  | .proposed f | .approved f => some f

/-- The slot is APPROVED (R172). -/
def SetSlot.isApproved (t : SetSlot) : Bool :=
  match t.content with
  | .approved _ => true
  | .empty | .proposed _ => false

/-- The record of a contour; `none` is FREE (R1). -/
def State.contour? (s : State) (c : Fin Config.contours) : Option Contour := s.prog.contours[c]

/-- Replace the record of a contour. -/
def State.setContour (c : Fin Config.contours) (r : Option Contour) (s : State) : State :=
  s.onProg fun p => { p with contours := p.contours.set c r }

/-- Change the record of a contour that is not FREE. -/
def State.modContour (c : Fin Config.contours) (f : Contour → Contour) (s : State) : State :=
  match s.contour? c with
  | none => s
  | some r => s.setContour c (some (f r))

/-- The status of a contour; `none` is FREE. -/
def State.statusOf (s : State) (c : Fin Config.contours) : Option ContourStatus := (s.contour? c).map (·.status)

/-- The contour that is LOADING, if any (R9). -/
def State.loading (s : State) : Option (Fin Config.contours) :=
  (List.finRange Config.contours).find? fun c => s.statusOf c == some .loading

/-- The record of the active contour. -/
def State.activeContour (s : State) : Option Contour := s.cyc.active.bind s.contour?

/-- Change the record of the active contour. -/
def State.modActive (f : Contour → Contour) (s : State) : State :=
  match s.cyc.active with
  | none => s
  | some c => s.modContour c f

/-- The values of the process set in a slot. -/
def State.setFields (s : State) (n : Fin Config.sets) : Option ProcessSet := s.setups.sets[n].fields

/-- The values of the process set in the active contour's slot (R92). -/
def State.activeSet (s : State) : Option ProcessSet := s.activeContour.bind fun r => s.setFields r.slot

/-- Run an operation with the Machine Setup, the active contour's record and its process set (entry 36). -/
def withCut (f : MachineSetup → Contour → ProcessSet → State → State) (s : State) : State :=
  match s.setups.setup, s.activeContour, s.activeSet with
  | some m, some r, some p => f m r p s
  | _, _, _ => s

/-! ### The Segment Store -/

/-- The free slot count (R19). -/
def State.freeSlots (s : State) : Nat := Config.storeSlots - s.prog.segments.length

/-- The segments of a contour, in store order. -/
def State.segmentsOf (s : State) (c : Fin Config.contours) : List Segment :=
  s.prog.segments.filter fun g => g.contour == c

/-- The segments of the active contour, in store order. -/
def State.activeSegments (s : State) : List Segment :=
  match s.cyc.active with
  | none => []
  | some c => s.segmentsOf c

/-- A segment of a class other than TRAVERSE (R1). -/
def SegClass.isJet : SegClass → Bool
  | .traverse => false
  | .leadin | .cut | .tab | .leadout => true

/-- The jet segments of the active contour that are in the store, in store order. -/
def State.activeJets (s : State) : List Segment := s.activeSegments.filter fun g => g.cls.isJet

/-- The segment with a sequence number. -/
def State.segment? (s : State) (seq : Nat) : Option Segment := s.prog.segments.find? fun g => g.seq == seq

/-- The segment under the cursor (R71). -/
def State.cursorSegment (s : State) : Option Segment := s.path.cursor.bind fun p => s.segment? p.seq

/-- Change one segment of the store. -/
def State.modSegment (seq : Nat) (f : Segment → Segment) (s : State) : State :=
  s.onProg fun p => { p with segments := p.segments.map fun g => if g.seq == seq then f g else g }

/-- Take segments out of the store; their slots are free at once and the rest keep their order (R36). -/
def State.dropSegments (gone : Segment → Bool) (s : State) : State :=
  s.onProg fun p => { p with segments := p.segments.filter fun g => !gone g }

/-- One position is behind another on a contour (R128). -/
def Pos.behind (p q : Pos) : Bool := p.seq < q.seq || (p.seq == q.seq && p.dist < q.dist)

/-! ### Alerts (R156) -/

/-- What an alert records of the moment its cause arrives (R155). -/
structure AlertContext where
  contour : Option (Fin Config.contours)
  position : Option Pos
  mstate : MachineState
  deriving DecidableEq, Repr

/-- The contour, cursor and machine state as they stand. -/
def alertContext (s : State) : AlertContext := ⟨s.cyc.active, s.path.cursor, s.cyc.mstate⟩

/-- The record after one more alert (R156). -/
def recordAlert (code : AlertCode) (d : AlertDetail) (x : AlertContext) : Option AlertRecord → AlertRecord
  | none =>
    { code := code, detail := d, contour := x.contour, position := x.position, mstate := x.mstate,
      further := 0, latest := none, isStatic := false }
  | some r => { r with further := min 255 (r.further + 1), latest := some code }

/-- Raise an alert (R156). -/
def raiseAlert (code : AlertCode) (d : AlertDetail) (x : AlertContext) (s : State) : State :=
  s.setAlert (some (recordAlert code d x s.alert))

/-! ### The pressure demand and the band (R92, R93, R96, R99) -/

/-- The demand of a closed jet is the pre-charge (R93). -/
def preCharge (c : CycleController) : Bool :=
  c.mstate == .running && (c.phase == some .approach || c.phase == some .probe || c.phase == some .pierce)

/-- The demand `t` ms into the ramp (R99). -/
def rampDemand (f : ProcessSet) (t : Nat) : Nat := f.pPierce + (f.pCut - f.pPierce) * t / f.tRamp

/-- The ms elapsed in the ramp. -/
def PierceTimer.rampElapsed : PierceTimer → Nat
  | .ramp t _ => t
  | .stopped | .tLow _ | .tDwell _ | .tRejoin _ => 0

/-- The demand that the jet state, the machine state and the phase give (R92, R93, R99). -/
def demandOf (s : State) : Nat :=
  match s.activeSet with
  | none => 0
  | some f =>
    match s.jet.state with
    | .closed => if preCharge s.cyc then f.pPierce else 0
    | .low => f.pPierce
    | .ramp => rampDemand f s.jet.pierceTimer.rampElapsed
    | .cut => f.pCut
    | .tab => f.pTab

/-- The band state for a demand and a feedback (R96); without a Machine Setup there is no band (entry 31). -/
def bandOf (s : State) (demand pfb : Nat) : Bool :=
  match s.setups.setup with
  | none => false
  | some m => absDiff pfb demand ≤ m.pressureBand

/-- Form the demand again, and with a change of it the band state (R93, R96). -/
def reformDemand (s : State) : State :=
  let d := demandOf s
  if d = s.jet.demand then s else s.onJet fun j => { j with demand := d, bandIn := bandOf s d s.lines.pfb }

/-- Close the jet (R95): the valves close, every timer of the Jet Controller stops, the dip watch is disarmed, the
pierce step becomes none, and the demand is that of R93. -/
def closeJet (s : State) : State :=
  reformDemand (s.onJet fun j =>
    { j with state := .closed, settle := .stopped, dip := .stopped, dipWatch := false, pierceStep := none
             pierceTimer := .stopped, abrasiveDelay := .stopped, abrasiveGrace := .stopped, abrasiveWatch := false })

/-- The states and phases in which the valves may be open (R92). -/
def valvesAllowed (c : CycleController) : Bool :=
  (c.mstate == .running || c.mstate == .resuming) && (c.phase == some .pierce || c.phase == some .cut)

/-- Set the machine state and the phase. The jet is commanded CLOSED where they leave those in which the valves may be
open (R92); the demand is formed again (R93). -/
def enterState (m : MachineState) (ph : Option Phase) (s : State) : State :=
  let s := s.onCyc fun c => { c with mstate := m, phase := ph }
  if valvesAllowed s.cyc then reformDemand s else closeJet s

/-! ### Giving up and ending (R12, R13, R11) -/

/-- The active contour leaves: its record is changed, its segments leave the store (R13), the active contour and the
cursor become absent and the path speed 0 (R71). -/
def dropActive (f : Contour → Contour) (s : State) : State :=
  match s.cyc.active with
  | none => s
  | some c =>
    ((((s.modContour c f).dropSegments fun g => g.contour == c).onCyc fun y => { y with active := none }).onPath fun p =>
      { p with cursor := none, speedSq := 0, motion := .rest })

/-- The record of a contour that becomes ABANDONED (R12). -/
def Contour.abandoned (why : AbandonReason) (r : Contour) : Contour :=
  { r with status := .abandoned, abandonReason := some why }

/-- The cycle ends in IDLE: phase absent, hold record, deferred-hold flag, abort pending and collision suspension
cleared (R111, R122, R123, R128, R132). -/
def endCycle (s : State) : State :=
  closeJet (s.onCyc fun c =>
    { c with mstate := .idle, phase := none, hold := none, deferredHold := false, abortPending := false
             suspension := false })

/-- An ABORT whose motion has come to rest: the contour is ABANDONED with reason ABORT and the state becomes IDLE
(R124). -/
def abandonByAbort (s : State) : State := endCycle (dropActive (Contour.abandoned .abort) s)

/-! ### Rest, and taking a hold (R129, R133 to R136) -/

/-- The override leaves a segment some speed: the cruise speed of a jet segment, scaled, is above 0 (R68, R73). -/
def leavesSpeed (p : ProfileGenerator) (g : Segment) : Bool :=
  match g.cls, g.plan with
  | .traverse, _ => true
  | _, some pl => 0 < pl.cruise * p.override / 100
  | _, none => false

/-- A released path is held at speed 0 by a ceiling of 0 (R73): FORWARD on a jet segment to which the override leaves no
speed. -/
def heldStill (s : State) : Bool :=
  match s.cursorSegment with
  | none => false
  | some g => s.path.motion == .run && s.path.dir == .forward && s.path.speedSq == 0 && !leavesSpeed s.path g

/-- The path stands still: no motion is under way, or a ceiling of 0 holds it (R79). -/
def pathStill (s : State) : Bool := s.path.motion == .rest || heldStill s

/-- The path and Z are at rest. -/
def atRest (s : State) : Bool := pathStill s && s.zmotion == .rest

/-- The stop point (R134, R135): the cursor, or in phase CUT with no cursor the end of the last jet segment. -/
def stopPoint (s : State) : Option Pos :=
  match s.path.cursor with
  | some p => some p
  | none =>
    if s.cyc.phase = some .cut then s.activeJets.getLast?.map fun g => ⟨g.seq, g.length.getD 0⟩ else none

/-- What the coming to rest of the path and Z brings: the end of an ABORT (R124), or HELD with the stop point
(R134). -/
def settleRest (s : State) : State :=
  if !atRest s then s
  else if s.cyc.abortPending then abandonByAbort s
  else if s.cyc.mstate = .holding then
    enterState .held s.cyc.phase
      (s.onCyc fun c => { c with hold := c.hold.map fun h => { h with stop := stopPoint s } })
  else s

/-- Path motion begins hold deceleration, or is at rest at once where the path stands still (R79), and a Z move or probe
descent comes to rest, its capture disarmed (R89, R90). -/
def stopMotion (s : State) : State :=
  let s := s.onPath fun p => { p with motion := if pathStill s then .rest else .decel }
  s.setZ (match s.zmotion with
    | .rest => .rest
    | .moving t _ => .stopMove t
    | .probing _ | .stopProbe => .stopProbe
    | .contactStop => .contactStop
    | .stopMove t => .stopMove t)

/-- The alert of a hold cause; REQUEST has none (R129). -/
def HoldCause.alert : HoldCause → Option AlertCode
  | .request => none
  | .pressureSettle => some .pressureSettle
  | .pressureDip => some .pressureDip
  | .abrasive => some .abrasive
  | .pump => some .pump
  | .noSurface => some .noSurface
  | .key => some .key

/-- Raise the alert of a hold cause, where it has one. -/
def raiseHoldAlert (cause : HoldCause) (d : AlertDetail) (x : AlertContext) (s : State) : State :=
  match cause.alert with
  | none => s
  | some code => raiseAlert code d x s

/-- The hold record that a hold writes: afresh in RUNNING, and in RESUMING with the phase and the jet-close point of
the record that is there (R133, R136). -/
def newHoldRecord (cause : HoldCause) (s : State) : HoldRecord :=
  let kept := if s.cyc.mstate = .resuming then s.cyc.hold else none
  match kept with
  | some h => { cause := cause, phase := h.phase, jetClose := h.jetClose, stop := none, rejoin := none, step := none }
  | none =>
    { cause := cause, phase := s.cyc.phase.getD .wait
      jetClose := if s.cyc.phase = some .cut then s.path.cursor else none
      stop := none, rejoin := none, step := none }

/-- One more hold on a contour, saturating at 255 (R1, R133). -/
def Contour.countHold (r : Contour) : Contour := { r with holds := min 255 (r.holds + 1) }

/-- Take a hold (R133), in the order of its steps; where nothing moves the state is HELD at once (R134). -/
def takeHold (cause : HoldCause) (d : AlertDetail) (s : State) : State :=
  let x := alertContext s
  let h := newHoldRecord cause s
  let s := closeJet s
  let s := s.onCyc fun c => { c with hold := some h, deferredHold := false }
  let s := s.modActive Contour.countHold
  let s := stopMotion (enterState .holding s.cyc.phase s)
  settleRest (raiseHoldAlert cause d x s)

/-- A hold cause other than REQUEST arrives (R129, R125, R152). -/
def holdCause (cause : HoldCause) (d : AlertDetail) (s : State) : State :=
  match s.cyc.mstate with
  | .running | .resuming =>
    if s.cyc.abortPending then raiseHoldAlert cause d (alertContext s) s else takeHold cause d s
  | .holding | .held | .fault => raiseHoldAlert cause d (alertContext s) s
  | .idle | .unconfigured | .homing | .jogging => s

/-- A report of the Jet Controller, with the jet state and the demand of the instant as its detail (R102). -/
def jetReport (cause : HoldCause) (s : State) : State :=
  holdCause cause { jetState := some s.jet.state, demand := some s.jet.demand } s

/-! ### Axis counters (R81, R82, R84) -/

/-- The deviation: command less encoder (R81). -/
def Channel.deviation (c : Channel) : Int := c.command - c.encoder

/-- The channel of an axis. -/
def State.chan (s : State) (a : Axis) : Channel := s.axes.get a

/-- Change the channel of an axis. -/
def State.onAxis (a : Axis) (f : Channel → Channel) (s : State) : State :=
  s.onAxes fun p => p.set a (f (p.get a))

/-- The command is set equal to the encoder (R84), with no motion of its own. -/
def Channel.track (c : Channel) : Channel := { c with command := c.encoder, speedSq := 0 }

/-- The command goes to a target, with the pulses and the encoder counts that this brings; the deviation stays, and DIR
takes the sign of the net change and stays where that is 0: the model's choice (entry 14). -/
def Channel.jump (target : Int) (c : Channel) : Channel :=
  { c with command := target, encoder := c.encoder + (target - c.command)
           dir := if c.command < target then .pos else if target < c.command then .neg else c.dir }

/-- The command goes to a target by step pulses; the encoder has its own counts (R82). -/
def Channel.pulse (target : Int) (c : Channel) : Channel :=
  { c with command := target, dir := if c.command < target then .pos else if target < c.command then .neg else c.dir }

/-- Every axis tracks its encoder, and its motion has ended. -/
def trackAll (s : State) : State := s.onAxes fun p => ⟨p.x.track, p.y.track, p.z.track⟩

/-! ### The fault action (R147 to R151) -/

/-- The six limit inputs in the order of R151. -/
def limitOrder : List (Axis × Side) := [(.x, .neg), (.x, .pos), (.y, .neg), (.y, .pos), (.z, .neg), (.z, .pos)]

/-- The level of one side of an axis's limit inputs. -/
def LimitLevels.get (l : LimitLevels) : Side → Bool
  | .neg => l.neg
  | .pos => l.pos

/-- The same levels with one side replaced. -/
def LimitLevels.set (l : LimitLevels) (d : Side) (v : Bool) : LimitLevels :=
  match d with
  | .neg => { l with neg := v }
  | .pos => { l with pos := v }

/-- The level of a limit input. -/
def Lines.limit (l : Lines) (a : Axis) (d : Side) : Bool := (l.limits.get a).get d

/-- The first asserted limit input in the order of R151. -/
def Lines.firstLimit (l : Lines) : Option (Axis × Side) := limitOrder.find? fun p => l.limit p.1 p.2

/-- The condition of a fault cause is present (R151). -/
def FaultCause.present (l : Lines) : FaultCause → Bool
  | .estop => l.estop
  | .limit a d => l.limit a d
  | .following _ | .collision => false

/-- The alert code of a fault cause (R147). -/
def FaultCause.code : FaultCause → AlertCode
  | .following _ => .following
  | .limit _ _ => .limit
  | .estop => .estop
  | .collision => .collision

/-- The detail of a fault cause (R147). -/
def FaultCause.detail : FaultCause → AlertDetail
  | .following a => { axis := some a }
  | .limit a d => { axis := some a, side := some d }
  | .estop | .collision => {}

/-- The abandon reason of a fault cause (R12). -/
def FaultCause.reason : FaultCause → AbandonReason
  | .following _ => .following
  | .limit _ _ => .limit
  | .estop => .estop
  | .collision => .collision

/-- The homed flags that a fault cause clears (R87, R149). -/
def FaultCause.clears : FaultCause → Axis → Bool
  | .estop, _ => true
  | .following a, b | .limit a _, b => a == b
  | .collision, _ => false

/-- The test of R151: in FAULT with no escape jog under way, a fault cause whose condition is not present becomes
LIMIT of the first asserted limit input, if any. -/
def retestCause (s : State) : State :=
  match s.cyc.mstate, s.jog.axis, s.cyc.faultCause, s.lines.firstLimit with
  | .fault, none, some fc, some p =>
    if fc.present s.lines then s else s.onCyc fun c => { c with faultCause := some (.limit p.1 p.2) }
  | _, _, _, _ => s

/-- Clear the homed flags that a fault cause clears. -/
def clearHomed (fc : FaultCause) (s : State) : State :=
  let f := fun (a : Axis) (c : Channel) => { c with homed := c.homed && !fc.clears a }
  s.onAxes fun p => ⟨f .x p.x, f .y p.y, f .z p.z⟩

/-- What the fault action does in a state other than FAULT (R149), all at one instant. -/
def enterFault (fc : FaultCause) (s : State) : State :=
  let x := alertContext s
  let s := dropActive (Contour.abandoned fc.reason) s
  let s := s.onCyc fun c =>
    { c with mstate := .fault, phase := none, hold := none, deferredHold := false, abortPending := false
             suspension := false, faultCause := some fc }
  let s := closeJet s
  let s := (s.onPath fun p => { p with cursor := none, speedSq := 0, motion := .rest }).setZ .rest
  let s := (s.onHoming fun _ => .reset).onJog fun _ => .reset
  let s := retestCause (clearHomed fc (trackAll s))
  raiseAlert fc.code fc.detail x s

/-- A fault cause is taken (R147): the fault action, or in FAULT its alert only. -/
def faultAction (fc : FaultCause) (s : State) : State :=
  if s.cyc.mstate = .fault then raiseAlert fc.code fc.detail (alertContext s) s else enterFault fc s

/-- The deviation of an axis is beyond its following limit, in a state in which it is compared (R85). -/
def beyondLimit (s : State) (a : Axis) : Bool :=
  match s.setups.setup with
  | none => false
  | some m =>
    s.cyc.mstate != .fault && s.cyc.mstate != .unconfigured
      && decide ((m.axes.get a).followingLimit < (s.chan a).deviation.natAbs)

/-- The following check of an axis (R85). -/
def followingCheck (a : Axis) (s : State) : State := if beyondLimit s a then faultAction (.following a) s else s

/-- The following check of the three axes at one instant (R85): each that is beyond its limit reports, X first
(entry 24); the first report makes the fault, and the others find FAULT. -/
def followingCheckAll (s : State) : State :=
  ([.x, .y, .z].filter (beyondLimit s)).foldl (fun t a => faultAction (.following a) t) s

/-! ### Wear (R109) -/

/-- A wear limit is reached: it is not 0 and the accumulator stands at or above it. -/
def wearReached (limit value : Nat) : Bool := limit != 0 && limit ≤ value

/-- One accumulator goes from not reached to reached: the WEAR alert and the cycle-stop flag (R109). -/
def raiseWear (a : Accumulator) (s : State) : State :=
  (raiseAlert .wear { accumulator := some a } (alertContext s) s).onCyc fun c => { c with cycleStop := true }

/-- Test both limits, jet time first (R109, entry 33); without a Machine Setup no limit is reached. -/
def testWear (s : State) : State :=
  let t := match s.setups.setup with | none => false | some m => wearReached m.jetTimeLimit (s.jet.jetTime / 1000)
  let n := match s.setups.setup with | none => false | some m => wearReached m.pierceCountLimit s.jet.pierceCount
  let newT := t && !s.jet.wearJetTime
  let newN := n && !s.jet.wearPierceCount
  let s := s.onJet fun j => { j with wearJetTime := t, wearPierceCount := n }
  let s := if newT then raiseWear .jetTime s else s
  if newN then raiseWear .pierceCount s else s

end Sys2Proof.Machine
end

