-- ==== Sys2Proof/Machine/Flags.lean ====
section
/-! DEFINITION. The conditions that the part derives from its state, each said once: which requests the Access Check
admits (R187), the attention indication (R158), the collision watch (R121), the pierce in progress (R131), the
standing condition of an alert (R155), a slot in use (R174). -/

namespace Sys2Proof.Machine

/-- The attention indication: the alert record is full (R158). -/
def attention (s : State) : Bool := s.alert.isSome

/-- The machine states of a cycle (R111). -/
def MachineState.inCycle : MachineState → Bool
  | .running | .holding | .held | .resuming => true
  | .unconfigured | .idle | .homing | .jogging | .fault => false

/-- The probe descent is under way: from its start until its report of contact or of the end of travel, or until it
has come to rest for a hold (R121, entry 22). -/
def ZMotion.isDescent : ZMotion → Bool
  | .probing _ | .stopProbe => true
  | .rest | .moving _ _ | .contactStop | .stopMove _ => false

/-- The collision watch is on (R121). -/
def watchOn (s : State) : Bool := s.cyc.mstate.inCycle && !s.zmotion.isDescent && !s.cyc.suspension

/-- The pierce is in progress (R131). -/
def pierceInProgress (s : State) : Bool :=
  s.cyc.phase == some .pierce
    || (s.cyc.phase == some .cut && (s.activeContour.map (·.pierceComplete)) == some false)

/-- The cycle runs, and no ABORT waits for rest: steps begin and moves are named (R125, R134). -/
def advancing (s : State) : Bool := s.cyc.mstate == .running && !s.cyc.abortPending

/-- The valves are open: the jet is not CLOSED. WATER and ABRASIVE are driven together (R92). -/
def Jet.isOpen (j : Jet) : Bool := j.state != .closed

/-- The jet states in which band entries and losses count (R96). -/
def JetState.banded : JetState → Bool
  | .low | .cut | .tab => true
  | .closed | .ramp => false

/-- The jet states in which a band entry arms the dip watch (R97). -/
def JetState.watched : JetState → Bool
  | .cut | .tab => true
  | .closed | .low | .ramp => false

/-- A status in which a contour holds its process set slot and refuses a WRITE_SETUP (R174, R180). -/
def ContourStatus.holds : ContourStatus → Bool
  | .loading | .sealed | .active => true
  | .done | .abandoned => false

/-- A slot is in use (R174). -/
def slotInUse (s : State) (n : Fin Config.sets) : Bool :=
  (List.finRange Config.contours).any fun c =>
    match s.contour? c with
    | none => false
    | some r => r.status.holds && r.slot == n

/-- A contour is LOADING, SEALED or ACTIVE (R180). -/
def programHeld (s : State) : Bool :=
  (List.finRange Config.contours).any fun c =>
    match s.contour? c with
    | none => false
    | some r => r.status.holds

/-- Any of the six limit inputs is asserted (R154). -/
def Lines.anyLimit (l : Lines) : Bool := limitOrder.any fun p => l.limit p.1 p.2

/-- All three axes are homed (R112). -/
def allHomed (s : State) : Bool := s.axes.x.homed && s.axes.y.homed && s.axes.z.homed

/-- A wear limit is reached (R109, R112). -/
def Jet.wearLimit (j : Jet) : Bool := j.wearJetTime || j.wearPierceCount

/-- The standing condition of an alert's first code is present (R155). -/
def standing (s : State) (r : AlertRecord) : Bool :=
  match r.code with
  | .pump => !s.lines.pumprdy
  | .limit =>
    match r.detail.axis, r.detail.side with
    | some a, some d => s.lines.limit a d
    | _, _ => false
  | .estop => s.lines.estop
  | .wear =>
    match r.detail.accumulator with
    | some .jetTime => s.jet.wearJetTime
    | some .pierceCount => s.jet.wearPierceCount
    | none => false
  | .pressureSettle | .pressureDip | .abrasive | .noSurface | .key | .following | .collision | .homeFailed => false

/-- An escape jog is under way: a jog axis in FAULT (R153, R159). -/
def escapeJog (s : State) : Bool := s.cyc.mstate == .fault && s.jog.axis.isSome

/-- The axis follows its encoder: in FAULT and UNCONFIGURED, save the axis of an escape jog (R84). -/
def tracks (s : State) (a : Axis) : Bool :=
  (s.cyc.mstate == .unconfigured || s.cyc.mstate == .fault) && s.jog.axis != some a

/-- A position inside the soft-limit window of an axis. -/
def inWindow (x : AxisSetup) (p : Int) : Bool := within x.softMin p x.softMax

/-! ### The Access Check (R187) -/

/-- The rows of the access table. -/
inductive AccessClass where
  | read | cycle | program | setup | accumulators | operator | start | manual
  deriving DecidableEq, Repr

/-- The Access Check's answer, by port, key mode and machine state (R187). -/
def AccessClass.admits (c : AccessClass) (p : Port) (k : KeyMode) (m : MachineState) : Bool :=
  match c, p with
  | .read, _ | .cycle, _ => true
  | .program, .cell => true
  | .setup, .cell => k == .service || m == .unconfigured
  | .accumulators, .cell => k == .service
  | .operator, .pendant => true
  | .start, .pendant => k == .production || k == .setup
  | .manual, .pendant => k == .setup || k == .service
  | .program, .pendant | .setup, .pendant | .accumulators, .pendant => false
  | .operator, .cell | .start, .cell | .manual, .cell => false

end Sys2Proof.Machine
end

