-- ==== Sys2Proof/Machine/Operands.lean ====
section
/-! DEFINITION. What stands in frames (12_ports_frames_and_requests.md): the check (R183), the request codes and their
body fields (R188, R189), and the fields of reply bodies (R183, R190). -/

namespace Sys2Proof.Machine

/-! ### The check (R183) -/

/-- One bit shift of the CRC register. -/
def crcShift (r : BitVec 16) : BitVec 16 := if r.msb then (r <<< 1) ^^^ 0x1021#16 else r <<< 1

/-- One byte enters the CRC register, most significant bit first. -/
def crcByte (r : BitVec 16) (b : Byte) : BitVec 16 :=
  Nat.repeat crcShift 8 (r ^^^ (b.setWidth 16 <<< 8))

/-- The CRC-16 of a run of bytes (R183). -/
def crc16 (bytes : List Byte) : BitVec 16 := bytes.foldl crcByte 0xFFFF#16

/-- The two check bytes, low byte first. -/
def checkBytes (bytes : List Byte) : List Byte :=
  let r := crc16 bytes
  [r.setWidth 8, (r >>> 8).setWidth 8]

/-- A whole frame (R183): start mark, body length, kind, tag, code, body, check. -/
def frame (kind tag code : Byte) (body : List Byte) : List Byte :=
  let covered := BitVec.ofNat 8 body.length :: kind :: tag :: code :: body
  0xA7#8 :: (covered ++ checkBytes covered)

/-! ### Reading body fields (R183) -/

/-- The one-byte number at an offset. -/
def byteAt (b : List Byte) (i : Nat) : Nat := (b.getD i 0).toNat

/-- The unsigned four-byte number at an offset, little-endian. -/
def wordAt (b : List Byte) (i : Nat) : Nat :=
  byteAt b i + 256 * (byteAt b (i + 1) + 256 * (byteAt b (i + 2) + 256 * byteAt b (i + 3)))

/-- The signed four-byte number at an offset, little-endian, in two's complement. -/
def signedAt (b : List Byte) (i : Nat) : Int :=
  let w := wordAt b i
  if w < 2147483648 then w else (w : Int) - 4294967296

/-! ### Requests (R188) -/

/-- A request with its body fields, as the owning block receives it. -/
inductive Request where
  | getStatus
  | getAxes
  | getContour (contour : Nat)
  | getSet (slot : Nat)
  | getAlert
  | releaseAlert
  | proposeSet (slot : Nat) (fields : ProcessSet)
  | declare (contour slot quality pierceMethod surfaceMode : Nat)
  | append (contour : Nat) (entries : List Entry)
  | seal (contour : Nat)
  | clearContour (contour : Nat)
  | clearProgram
  | writeSetup (fields : MachineSetup)
  | setAccumulators (seconds pierces : Nat)
  | restart
  | approveSet (slot proposal : Nat)
  | declineSet (slot proposal : Nat)
  | setOverride (value : Nat)
  | releaseFault
  | hold
  | cycleStop
  | abort
  | cycleStart
  | resume
  | home (axis : Nat)
  | jog (axis direction speed : Nat)
  | jogStep (axis : Nat) (distance : Int)
  | jogRefresh
  | jogStop
  deriving DecidableEq, Repr

/-- The row of the access table that a request stands in (R187). -/
def Request.access : Request → AccessClass
  | .getStatus | .getAxes | .getContour _ | .getSet _ | .getAlert | .releaseAlert => .read
  | .hold | .cycleStop | .abort => .cycle
  | .proposeSet _ _ | .declare _ _ _ _ _ | .append _ _ | .seal _ | .clearContour _ | .clearProgram => .program
  | .writeSetup _ | .restart => .setup
  | .setAccumulators _ _ => .accumulators
  | .approveSet _ _ | .declineSet _ _ | .setOverride _ | .releaseFault | .jogStop => .operator
  | .cycleStart | .resume => .start
  | .home _ | .jog _ _ _ | .jogStep _ _ | .jogRefresh => .manual

/-- The body length that a code requires (R188); APPEND's is judged by its entries (R189). -/
def fixedLength (code : Nat) : Option Nat :=
  match code with
  | 0x01 => some 0
  | 0x02 => some 0
  | 0x03 => some 1
  | 0x04 => some 1
  | 0x05 => some 0
  | 0x06 => some 0
  | 0x10 => some 118
  | 0x11 => some 5
  | 0x13 => some 1
  | 0x14 => some 1
  | 0x15 => some 0
  | 0x16 => some 198
  | 0x17 => some 8
  | 0x18 => some 0
  | 0x20 => some 2
  | 0x21 => some 2
  | 0x22 => some 1
  | 0x23 => some 0
  | 0x30 => some 0
  | 0x31 => some 0
  | 0x32 => some 0
  | 0x33 => some 0
  | 0x34 => some 0
  | 0x40 => some 1
  | 0x41 => some 3
  | 0x42 => some 5
  | 0x43 => some 0
  | 0x44 => some 0
  | _ => none

/-- The 30 fields of a process set from an offset (R173, R188). -/
def readSet (b : List Byte) (o : Nat) : ProcessSet :=
  let w := fun k => wordAt b (o + 1 + 4 * k)
  { material := byteAt b o, thickness := w 0, vSep := w 1, qf1 := w 2, qf2 := w 3, qf3 := w 4, qf4 := w 5, qf5 := w 6
    rFull := w 7, fa := w 8, fl := w 9, cf0 := w 10, cf1 := w 11, cf2 := w 12, cf3 := w 13, cf4 := w 14, cf5 := w 15
    vTab := w 16, vCreep := w 17, fr := w 18, pCut := w 19, pPierce := w 20, pTab := w 21, tLow := w 22
    tRamp := w 23, tDwell := w 24, tRejoin := w 25, hPierce := w 26, hCut := w 27, backup := w 28 }

/-- The eleven fields of one axis from an offset, 38 bytes (R178, R188). -/
def readAxisSetup (b : List Byte) (o : Nat) : AxisSetup :=
  { softMin := signedAt b o, softMax := signedAt b (o + 4), maxSpeed := wordAt b (o + 8)
    acceleration := wordAt b (o + 12), followingLimit := wordAt b (o + 16), encoderReverse := byteAt b (o + 20)
    homeDirection := byteAt b (o + 21), homeSpeed := wordAt b (o + 22), homePosition := signedAt b (o + 26)
    jogSlow := wordAt b (o + 30), jogFast := wordAt b (o + 34) }

/-- The 54 fields of a WRITE_SETUP body (R178, R188). -/
def readSetup (b : List Byte) : MachineSetup :=
  let w := fun k => wordAt b (114 + 4 * k)
  { axes := ⟨readAxisSetup b 0, readAxisSetup b 38, readAxisSetup b 76⟩
    accel := w 0, accelHold := w 1, vPathMax := w 2, vRapid := w 3, accelRapid := w 4
    zClearance := signedAt b 134, probeSpeed := w 6, probeTravel := w 7, nominalSurface := signedAt b 146
    arcTolerance := w 9, backupReach := w 10, vBackup := w 11, pumpMax := w 12, pressureBand := w 13
    settleLimit := w 14, dipAllowance := w 15, abrasiveDelay := w 16, abrasiveGrace := w 17, jogKeep := w 18
    jetTimeLimit := w 19, pierceCountLimit := w 20 }

/-- The entry that starts at an offset, of 9 or 17 bytes by its shape bit (R189). -/
def readEntry (b : List Byte) (o : Nat) : Entry :=
  let d := byteAt b o
  { classCode := d % 8
    shape := if d / 8 % 2 = 1 then .arc (signedAt b (o + 9)) (signedAt b (o + 13)) else .line
    cw := d / 16 % 2 == 1
    endX := signedAt b (o + 1)
    endY := signedAt b (o + 5) }

/-- The bytes an entry takes (R189). -/
def entrySize (e : Entry) : Nat :=
  match e.shape with
  | .line => 9
  | .arc _ _ => 17

/-- Walk the entries of an APPEND body from an offset (R189); `none` where the body is MALFORMED. The first argument
is the number of entries that may still come. -/
def walkEntries (b : List Byte) : Nat → Nat → Option (List Entry)
  | 0, o => if o = b.length then some [] else none
  | n + 1, o =>
    if o = b.length then some []
    else
      let e := readEntry b o
      if b.length < o + entrySize e then none else (walkEntries b n (o + entrySize e)).map (e :: ·)

/-- The entries of an APPEND body (R189): 1 to 8 of them, ending exactly at the end of the body. -/
def readEntries (b : List Byte) : Option (List Entry) :=
  match walkEntries b 8 1 with
  | some [] => none
  | r => r

/-- The request that a code and a body of the right length spell (R188). -/
def readFields (code : Nat) (b : List Byte) : Option Request :=
  match code with
  | 0x01 => some .getStatus
  | 0x02 => some .getAxes
  | 0x03 => some (.getContour (byteAt b 0))
  | 0x04 => some (.getSet (byteAt b 0))
  | 0x05 => some .getAlert
  | 0x06 => some .releaseAlert
  | 0x10 => some (.proposeSet (byteAt b 0) (readSet b 1))
  | 0x11 => some (.declare (byteAt b 0) (byteAt b 1) (byteAt b 2) (byteAt b 3) (byteAt b 4))
  | 0x13 => some (.seal (byteAt b 0))
  | 0x14 => some (.clearContour (byteAt b 0))
  | 0x15 => some .clearProgram
  | 0x16 => some (.writeSetup (readSetup b))
  | 0x17 => some (.setAccumulators (wordAt b 0) (wordAt b 4))
  | 0x18 => some .restart
  | 0x20 => some (.approveSet (byteAt b 0) (byteAt b 1))
  | 0x21 => some (.declineSet (byteAt b 0) (byteAt b 1))
  | 0x22 => some (.setOverride (byteAt b 0))
  | 0x23 => some .releaseFault
  | 0x30 => some .hold
  | 0x31 => some .cycleStop
  | 0x32 => some .abort
  | 0x33 => some .cycleStart
  | 0x34 => some .resume
  | 0x40 => some (.home (byteAt b 0))
  | 0x41 => some (.jog (byteAt b 0) (byteAt b 1) (byteAt b 2))
  | 0x42 => some (.jogStep (byteAt b 0) (signedAt b 1))
  | 0x43 => some .jogRefresh
  | 0x44 => some .jogStop
  | _ => none

/-- Checks 1 and 2 of R186 on a complete request: its code is in the table, its body length is the one required. -/
def readRequest (code : Byte) (b : List Byte) : Except Status Request :=
  if code = 0x12#8 then
    match readEntries b with
    | none => .error .malformed
    | some es => .ok (.append (byteAt b 0) es)
  else
    match fixedLength code.toNat, readFields code.toNat b with
    | some n, some r => if b.length = n then .ok r else .error .malformed
    | _, _ => .error .unknownRequest

/-! ### Numbered values (R183, R190, R155) -/

/-- The numbering of the machine states (R183). -/
def MachineState.number : MachineState → Nat
  | .unconfigured => 0 | .idle => 1 | .homing => 2 | .jogging => 3 | .running => 4 | .holding => 5 | .held => 6
  | .resuming => 7 | .fault => 8

/-- The numbering of the phases. -/
def Phase.number : Phase → Nat
  | .wait => 0 | .approach => 1 | .probe => 2 | .pierce => 3 | .cut => 4 | .retract => 5

/-- The numbering of the key modes. -/
def KeyMode.number : KeyMode → Nat
  | .production => 0 | .setup => 1 | .service => 2

/-- The numbering of the hold causes. -/
def HoldCause.number : HoldCause → Nat
  | .request => 0 | .pressureSettle => 1 | .pressureDip => 2 | .abrasive => 3 | .pump => 4 | .noSurface => 5 | .key => 6

/-- The numbering of the resume steps. -/
def ResumeStep.number : ResumeStep → Nat
  | .backup => 0 | .kerfStart => 1 | .rejoin => 2

/-- The numbering of the jet states. -/
def JetState.number : JetState → Nat
  | .closed => 0 | .low => 1 | .ramp => 2 | .cut => 3 | .tab => 4

/-- The numbering of the cursor directions. -/
def CursorDir.number : CursorDir → Nat
  | .forward => 0 | .reverse => 1

/-- The numbering of the axes. -/
def axisNumber : Axis → Nat
  | .x => 0 | .y => 1 | .z => 2

/-- The numbering of the sides. -/
def sideNumber : Side → Nat
  | .neg => 0 | .pos => 1

/-- The numbering of the contour statuses; FREE is 0 (R1). -/
def ContourStatus.number : ContourStatus → Nat
  | .loading => 1 | .sealed => 2 | .active => 3 | .done => 4 | .abandoned => 5

/-- The numbering of the pierce methods. -/
def PierceMethod.number : PierceMethod → Nat
  | .static => 0 | .creep => 1 | .drilled => 2

/-- The numbering of the surface modes. -/
def SurfaceMode.number : SurfaceMode → Nat
  | .probe => 0 | .carry => 1

/-- The numbering of the abandon reasons (R1). -/
def AbandonReason.number : AbandonReason → Nat
  | .abort => 0 | .following => 1 | .limit => 2 | .estop => 3 | .collision => 4

/-- The numbering of the accumulators (R155). -/
def Accumulator.number : Accumulator → Nat
  | .jetTime => 0 | .pierceCount => 1

/-- The numbering of the alert codes (R155). -/
def AlertCode.number : AlertCode → Nat
  | .pressureSettle => 0 | .pressureDip => 1 | .abrasive => 2 | .pump => 3 | .noSurface => 4 | .key => 5
  | .following => 6 | .limit => 7 | .estop => 8 | .collision => 9 | .wear => 10 | .homeFailed => 11

/-- The reply statuses' codes (R190). -/
def Status.number : Status → Nat
  | .ok => 0x00 | .notPermitted => 0x01 | .wrongState => 0x02 | .unknownRequest => 0x03 | .malformed => 0x04
  | .range => 0x05 | .inconsistent => 0x06 | .noSuch => 0x07 | .inUse => 0x08 | .notApproved => 0x09
  | .superseded => 0x0A | .setConflict => 0x0B | .storeFull => 0x0C | .contourTooLong => 0x0D | .order => 0x0E
  | .arcMismatch => 0x0F | .radius => 0x10 | .outOfLimits => 0x11 | .noCut => 0x12 | .creepShort => 0x13
  | .notHomed => 0x14 | .runListEmpty => 0x15 | .pumpNotReady => 0x16 | .causePresent => 0x17 | .wearLimit => 0x18

/-- The state of a slot and its numbering (R172). -/
def SetContent.number : SetContent → Nat
  | .empty => 0 | .proposed _ => 1 | .approved _ => 2

/-- The pierce method that a code names (R3). -/
def PierceMethod.ofCode : Nat → Option PierceMethod
  | 0 => some .static
  | 1 => some .creep
  | 2 => some .drilled
  | _ => none

/-- The surface mode that a code names (R3). -/
def SurfaceMode.ofCode : Nat → Option SurfaceMode
  | 0 => some .probe
  | 1 => some .carry
  | _ => none

/-- The segment class that a code names (R189). -/
def SegClass.ofCode : Nat → Option SegClass
  | 0 => some .traverse
  | 1 => some .leadin
  | 2 => some .cut
  | 3 => some .tab
  | 4 => some .leadout
  | _ => none

/-- The axis that a code names (R166). -/
def axisOfCode : Nat → Option Axis
  | 0 => some .x
  | 1 => some .y
  | 2 => some .z
  | _ => none

/-- The side that a direction code names: NEG 0, POS 1 (R166, R178). -/
def sideOfCode : Nat → Option Side
  | 0 => some .neg
  | 1 => some .pos
  | _ => none

/-! ### Fields of reply bodies (R183) -/

/-- One byte of a reply body; `none` carries no meaning and takes a free value (entry 8). -/
abbrev Item : Type := Option Byte

/-- A number in a count of bytes, little-endian. -/
def leBytes : Nat → Nat → List Item
  | 0, _ => []
  | k + 1, n => some (BitVec.ofNat 8 n) :: leBytes k (n / 256)

/-- A one-byte field. -/
def num1 (n : Nat) : List Item := leBytes 1 n

/-- A four-byte unsigned number. -/
def num4 (n : Nat) : List Item := leBytes 4 n

/-- An eight-byte unsigned number. -/
def num8 (n : Nat) : List Item := leBytes 8 n

/-- A four-byte signed number, in two's complement. -/
def int4 (i : Int) : List Item := num4 (i % 4294967296).toNat

/-- A flag: 1 set, 0 clear. -/
def flag (b : Bool) : List Item := num1 (if b then 1 else 0)

/-- An optional field of a width: its presence byte, then its value bytes, which carry no meaning when absent. -/
def optional {α : Type} (width : Nat) (f : α → List Item) : Option α → List Item
  | none => some 0 :: List.replicate width none
  | some v => some 1 :: f v

/-- A position: sequence number, then distance or offset. -/
def posItems (p : Pos) : List Item := num4 p.seq ++ num4 p.dist

/-- The bytes of a reply body from an index on: an item without meaning takes the free value of its place. -/
def fillItems (serial : Nat) : Nat → List Item → List Byte
  | _, [] => []
  | i, x :: rest => x.getD (Config.unusedByte serial i) :: fillItems serial (i + 1) rest

/-- The reply header: machine state, attention byte (R183). -/
def headerItems (s : State) : List Item := num1 s.cyc.mstate.number ++ flag (attention s)

/-- The frame that carries a reply: kind 02h, the request's tag, the status (R183). -/
def Reply.frame (r : Reply) : List Byte :=
  Sys2Proof.Machine.frame 0x02#8 r.tag (BitVec.ofNat 8 r.status.number) r.body

end Sys2Proof.Machine
end

