-- ==== Sys2Proof/Machine/Jet.lean ====
section
/-! DEFINITION. The Jet Controller (06_jet_controller_and_pierce_methods.md): entering a jet state (R97), opening (R94),
abrasive supervision (R100), the pierce count (R109), the class under the cursor (R108), and its commands: the lines
ABRFLOW, PUMPRDY and PFB, the settle, dip, abrasive delay and grace timers, and the count of jet time. -/

namespace Sys2Proof.Machine

/-! ### Entering a state, opening, supervision -/

/-- The jet enters LOW, CUT or TAB (R97): the settle timer starts, or, with the band state IN, the band entry is taken
at once and handed to the step that waits on it. The valves are open only where R92 allows it. -/
def enterJet (js : JetState) (onBand : State → State) (s : State) : State :=
  match s.setups.setup with
  | none => s
  | some m =>
    if !valvesAllowed s.cyc then s
    else
      let s := reformDemand (s.onJet fun j =>
        { j with state := js, settle := .stopped, dip := .stopped, dipWatch := false })
      if s.jet.bandIn then onBand (s.onJet fun j => { j with dipWatch := js.watched })
      else s.onJet fun j => { j with settle := .running m.settleLimit }

/-- One more pierce that has opened the valves (R94, R109). -/
def countPierce (s : State) : State :=
  testWear (s.onJet fun j => { j with pierceCount := min Config.maxPierceCount (j.pierceCount + 1) })

/-- The grace timer runs out: ABRASIVE is reported, and no further negation is timed (R100). -/
def graceExpired (s : State) : State :=
  jetReport .abrasive (s.onJet fun j => { j with abrasiveGrace := .stopped, abrasiveWatch := false })

/-- A negation of ABRFLOW starts the grace timer; a grace of 0 is an expiry at once (R100). -/
def startGrace (m : MachineSetup) (s : State) : State :=
  if m.abrasiveGrace = 0 then graceExpired s else s.onJet fun j => { j with abrasiveGrace := .running m.abrasiveGrace }

/-- The start delay has run out: the watch begins and ABRFLOW is read (R100). -/
def readAbrasive (m : MachineSetup) (s : State) : State :=
  let s := s.onJet fun j => { j with abrasiveDelay := .stopped, abrasiveWatch := true }
  if s.lines.abrflow then s else startGrace m s

/-- The valves have opened: the abrasive start delay (R100). -/
def startAbrasive (m : MachineSetup) (s : State) : State :=
  if m.abrasiveDelay = 0 then readAbrasive m s
  else s.onJet fun j => { j with abrasiveDelay := .running m.abrasiveDelay }

/-- A command to open the jet (R94, R101): OPEN LOW and OPEN CUT count a pierce, KERF START does not. -/
def openJet (js : JetState) (pierce : Bool) (onBand : State → State) (s : State) : State :=
  match s.setups.setup with
  | none => s
  | some m =>
    if s.jet.isOpen || !valvesAllowed s.cyc then s
    else if !s.lines.pumprdy then jetReport .pump s
    else
      let s := if pierce then countPierce s else s
      let s := enterJet js onBand s
      if s.jet.isOpen then startAbrasive m s else s

/-- A dwell of the pierce timer, or its end at once where it is of 0 ms (R103). -/
def startDwell (t : PierceTimer) (ms : Nat) (ended : State → State) (s : State) : State :=
  if ms = 0 then ended s else s.onJet fun j => { j with pierceTimer := t }

/-- While the jet is open in CUT or TAB it follows the class of the segment under a cursor that moves FORWARD
(R108). -/
def followClass (cls : SegClass) (s : State) : State :=
  match s.jet.state, cls with
  | .cut, .tab => enterJet .tab id s
  | .tab, .leadin | .tab, .cut | .tab, .leadout | .tab, .traverse => enterJet .cut id s
  | _, _ => s

/-! ### Commands -/

/-- ABRFLOW_ASSERT (R100): a running grace timer stops. -/
def abrflowAsserted (s : State) : State := s.onJet fun j => { j with abrasiveGrace := .stopped }

/-- ABRFLOW_ASSERT. -/
def execAbrflowAssert (s : State) : Host.Outcome State Fault Refusal :=
  let edge := !s.lines.abrflow
  let s := s.onLines fun l => { l with abrflow := true }
  .next (if edge then live abrflowAsserted s else s)

/-- ABRFLOW_NEGATE after the start delay starts the grace timer (R100). -/
def abrflowNegated (s : State) : State :=
  withSetup (fun m s => if s.jet.abrasiveWatch then startGrace m s else s) s

/-- ABRFLOW_NEGATE. -/
def execAbrflowNegate (s : State) : Host.Outcome State Fault Refusal :=
  let edge := s.lines.abrflow
  let s := s.onLines fun l => { l with abrflow := false }
  .next (if edge then live abrflowNegated s else s)

/-- PUMPRDY negates: with the valves open the Jet Controller reports PUMP (R101). -/
def pumprdyNegated (s : State) : State := if s.jet.isOpen then jetReport .pump s else s

/-- PUMPRDY_NEGATE, with the level that PUMPRDY takes (entry 4). -/
def execPumprdyNegate (level : Bool) (s : State) : Host.Outcome State Fault Refusal :=
  let edge := s.lines.pumprdy && !level
  let s := s.onLines fun l => { l with pumprdy := level }
  .next (if edge then live pumprdyNegated s else s)

/-- SETTLE_TIMER_EXPIRY (R97). -/
def settleExpired (s : State) : State :=
  match s.jet.settle with
  | .stopped => s
  | .running _ => jetReport .pressureSettle (s.onJet fun j => { j with settle := .stopped })

/-- SETTLE_TIMER_EXPIRY. -/
def execSettleTimerExpiry (s : State) : Host.Outcome State Fault Refusal := .next (live settleExpired s)

/-- DIP_TIMER_EXPIRY (R98). -/
def dipExpired (s : State) : State :=
  match s.jet.dip with
  | .stopped => s
  | .running _ => jetReport .pressureDip (s.onJet fun j => { j with dip := .stopped, dipWatch := false })

/-- DIP_TIMER_EXPIRY. -/
def execDipTimerExpiry (s : State) : Host.Outcome State Fault Refusal := .next (live dipExpired s)

/-- ABRASIVE_DELAY_EXPIRY (R100). -/
def delayExpired (s : State) : State :=
  match s.jet.abrasiveDelay with
  | .stopped => s
  | .running _ => withSetup readAbrasive s

/-- ABRASIVE_DELAY_EXPIRY. -/
def execAbrasiveDelayExpiry (s : State) : Host.Outcome State Fault Refusal := .next (live delayExpired s)

/-- ABRASIVE_GRACE_EXPIRY (R100). -/
def graceTimerExpired (s : State) : State :=
  match s.jet.abrasiveGrace with
  | .stopped => s
  | .running _ => graceExpired s

/-- ABRASIVE_GRACE_EXPIRY. -/
def execAbrasiveGraceExpiry (s : State) : Host.Outcome State Fault Refusal := .next (live graceTimerExpired s)

/-- Jet time counts one millisecond while the valves are open (R109). -/
def jetTimeCounted (s : State) : State :=
  if s.jet.isOpen then testWear (s.onJet fun j => { j with jetTime := min Config.maxJetTime (j.jetTime + 1) }) else s

/-- JET_TIME_COUNT. -/
def execJetTimeCount (s : State) : Host.Outcome State Fault Refusal := .next (live jetTimeCounted s)

/-- RAMP_TICK (R99): one more millisecond of the ramp; the demand is formed again. -/
def rampTicked (s : State) : State :=
  match s.jet.pierceTimer with
  | .ramp t ms =>
    if s.jet.state = .ramp && t < ms then
      reformDemand (s.onJet fun j => { j with pierceTimer := .ramp (t + 1) ms })
    else s
  | .stopped | .tLow _ | .tDwell _ | .tRejoin _ => s

/-- RAMP_TICK. -/
def execRampTick (s : State) : Host.Outcome State Fault Refusal := .next (live rampTicked s)

end Sys2Proof.Machine
end

