-- ==== Sys2Proof/Machine/Path.lean ====
section
/-! DEFINITION. The Profile Generator's motion (05_profile_generator_and_axis_channels.md, R71 to R79): the cursor and the
points it gives, the speed along the path (R73, R75, R76, R79, entry 17), one micrometre of path motion (entry 15), a
change of the override (R78), and the Z moves (R89) with the end of the collision suspension (R122). -/

namespace Sys2Proof.Machine

/-! ### The cursor -/

/-- The X and Y command positions go to the point of the cursor (R72, R82). -/
def followCursor (move : Int → Channel → Channel) (s : State) : State :=
  match s.path.cursor, s.cursorSegment with
  | some p, some g =>
    let q := g.pointAt p.dist
    s.onAxes fun c => { c with x := move q.x c.x, y := move q.y c.y }
  | _, _ => s

/-- Put the cursor at a position. -/
def setCursor (p : Option Pos) (s : State) : State := s.onPath fun y => { y with cursor := p }

/-- The cursor goes to a position that an event names, with the pulses and counts this brings (entry 14). -/
def jumpCursor (p : Pos) (s : State) : State := followCursor Channel.jump (setCursor (some p) s)

/-- The cursor becomes absent and the path speed 0 (R71). -/
def clearCursor (s : State) : State := s.onPath fun p => { p with cursor := none, speedSq := 0, motion := .rest }

/-- The path moves off along the segments (R73, R76). -/
def releasePath (s : State) : State := s.onPath fun p => { p with motion := .run, dir := .forward }

/-- The stored length of a segment; 0 for a first TRAVERSE that has none yet. -/
def Segment.len (g : Segment) : Nat := g.length.getD 0

/-- The segment after a sequence number in the active contour. -/
def segmentAfter (s : State) (seq : Nat) : Option Segment := s.activeSegments.find? fun g => seq < g.seq

/-- The segment before a sequence number in the active contour. -/
def segmentBefore (s : State) (seq : Nat) : Option Segment :=
  s.activeSegments.reverse.find? fun g => g.seq < seq

/-- The path length from a position back to one that is not ahead of it (R75). -/
def pathBack (segs : List Segment) (t p : Pos) : Nat :=
  if t.seq = p.seq then p.dist - t.dist
  else
    let between := (segs.filter fun g => t.seq ≤ g.seq && g.seq < p.seq).map (·.len)
    p.dist + between.sum - t.dist

/-! ### Speeds (entry 17)

A speed is held as its square, which a motion at an acceleration `a` changes by exactly 2·a over each micrometre. -/

/-- The path speed in whole µm/s (R71). -/
def ProfileGenerator.speed (p : ProfileGenerator) : Nat := isqrt p.speedSq

/-- The square of a speed after rising at `a` over `n` µm. -/
def risen (a n v : Nat) : Nat := v + 2 * a * n

/-- The square of a speed after falling at `a` over `n` µm; 0 where it comes to rest before. -/
def fallen (a n v : Nat) : Nat := v - 2 * a * n

/-- The square of the speed from which a fall at `a` ends at rest over `n` µm. -/
def stopping (a n : Nat) : Nat := 2 * a * n

/-- The square of a speed after moving `n` µm toward a ceiling at `a`, up or down. -/
def slew (a ceiling n v : Nat) : Nat := max (fallen a n v) (min (risen a n v) (ceiling * ceiling))

/-- The hold record's resume step. -/
def resumeStep (s : State) : Option ResumeStep := s.cyc.hold.bind (·.step)

/-- REJOIN is under way (R143). -/
def rejoining (s : State) : Bool := s.cyc.mstate == .resuming && resumeStep s == some .rejoin

/-- BACKUP is under way (R141). -/
def backingUp (s : State) : Bool := s.cyc.mstate == .resuming && resumeStep s == some .backup

/-- The further limit on a jet segment's ceiling: Vcreep in step 4 of a CREEP pierce (R105), Vrejoin in REJOIN
(R143). -/
def narrowed (s : State) (ceiling : Nat) : Nat :=
  match s.activeContour, s.activeSet with
  | some r, some f =>
    if r.method = .creep && s.jet.pierceStep = some 4 then min f.vCreep ceiling
    else if rejoining s then min (rejoinLimit f r.quality) ceiling
    else ceiling
  | _, _ => ceiling

/-- The scaled envelope of a jet segment (R68). -/
def scaledAt (s : State) (m : MachineSetup) (g : Segment) (d : Nat) : Nat :=
  match g.plan with
  | none => 0
  | some p => scaledEnvelope m.accel s.path.override p g.len d

/-- The square of the path speed after `n` µm FORWARD on a segment from distance `d` (R73, R76, R78, R79). A TRAVERSE in
hold deceleration falls at A_hold, and at A_rapid where a lower override asks for more. -/
def forwardSpeed (s : State) (m : MachineSetup) (g : Segment) (d n : Nat) : Nat :=
  let v := s.path.speedSq
  let scaled := scaledAt s m g (d + n)
  let traverse := min (slew m.accelRapid (m.vRapid * s.path.override / 100) n v)
    (stopping m.accelRapid (g.len - (d + n)))
  match g.cls, s.path.motion with
  | .traverse, .decel => min (fallen m.accelHold n v) traverse
  | .traverse, _ => traverse
  | _, .decel => min (fallen m.accelHold n v) (scaled * scaled)
  | _, _ => min (risen m.accel n v) (narrowed s scaled * narrowed s scaled)

/-- The square of the path speed after `n` µm in REVERSE, with `rest` µm then left to the BACKUP target (R75, R79). -/
def reverseSpeed (s : State) (m : MachineSetup) (n rest : Nat) : Nat :=
  let v := s.path.speedSq
  match s.path.motion with
  | .decel => fallen m.accelHold n v
  | _ => min (slew m.accelHold (m.vBackup * s.path.override / 100) n v) (stopping m.accelHold rest)

/-- Set the square of the path speed. -/
def setSpeed (v : Nat) (s : State) : State := s.onPath fun p => { p with speedSq := v }

/-- The path can go on by one micrometre (R73, R79): it moves with a ceiling above 0 ahead of it, or in hold
deceleration its speed carries it there. A ceiling that is 0 only at an end of the segment does not hold it. -/
def pathMoves (m : MachineSetup) (p : ProfileGenerator) (g : Segment) : Bool :=
  match p.motion with
  | .rest => false
  | .run => p.dir == .reverse || leavesSpeed p g
  | .decel => 2 * m.accelHold ≤ p.speedSq

/-- The cursor has not yet passed the jet-close point of a REJOIN (R144). The deceleration of an ABORT may pass it
(R145). -/
def shortOfClose (s : State) (p : Pos) : Bool :=
  if rejoining s && !s.cyc.abortPending then
    match s.cyc.hold.bind (·.jetClose) with
    | none => true
    | some jc => !jc.behind p
  else true

/-- The BACKUP target, where BACKUP is under way (R141). -/
def backupTarget (s : State) : Option Pos := if backingUp s then s.cyc.hold.bind (·.rejoin) else none

/-- The cursor has not yet reached the BACKUP target (R75). -/
def shortOfTarget (s : State) (p : Pos) : Bool :=
  match backupTarget s with
  | none => true
  | some t => t.behind p

/-- The path left to the BACKUP target after the cursor has come to a position. -/
def targetDistance (s : State) (p : Pos) : Nat :=
  match backupTarget s with
  | none => p.dist
  | some t => pathBack s.activeSegments t p

/-- One micrometre of the cursor. It never passes a point at which another event is due (entry 16). -/
def cursorStep (s : State) : State :=
  match s.setups.setup, s.path.cursor, s.cursorSegment with
  | some m, some p, some g =>
    if !pathMoves m s.path g then s
    else
      match s.path.dir with
      | .forward =>
        if p.dist < g.len && shortOfClose s p then
          setCursor (some ⟨p.seq, p.dist + 1⟩) (setSpeed (forwardSpeed s m g p.dist 1) s)
        else s
      | .reverse =>
        if 0 < p.dist && shortOfTarget s p then
          let q : Pos := ⟨p.seq, p.dist - 1⟩
          setCursor (some q) (setSpeed (reverseSpeed s m 1 (targetDistance s q)) s)
        else s
  | _, _, _ => s

/-- The point of the cursor (R72). -/
def State.pathPoint (s : State) : Option Point :=
  match s.path.cursor, s.cursorSegment with
  | some p, some g => some (g.pointAt p.dist)
  | _, _ => none

/-- The coordinate of a point on X or Y. -/
def Point.along (q : Point) : Axis → Int
  | .y => q.y
  | .x | .z => q.x

/-- The other axis of the path. -/
def acrossAxis : Axis → Axis
  | .x => .y
  | .y | .z => .x

/-- The step pulses of an axis that the path still owes it at the point of the cursor: its command is not there yet
(R72, R82). -/
def owesPulse (s : State) (a : Axis) : Bool :=
  match s.pathPoint with
  | none => false
  | some q => q.along a != (s.chan a).command

/-- The cursor moves on until a pulse of X or Y is due; a few micrometres always bring one, or the end of the
segment. -/
def cursorToPulse : Nat → State → State
  | 0, s => s
  | n + 1, s =>
    let t := cursorStep s
    if owesPulse t .x || owesPulse t .y then t else cursorToPulse n t

/-- One micrometre of an axis toward the point of the cursor. -/
def stepToPoint (a : Axis) (s : State) : State :=
  match s.pathPoint with
  | none => s
  | some q => s.onAxis a fun c => c.pulse (if c.command < q.along a then c.command + 1 else c.command - 1)

/-- The cursor moves on over the micrometres that bring no pulse, as far as the path's speed carries it. -/
def cursorFree : Nat → State → State
  | 0, s => s
  | n + 1, s =>
    let t := cursorStep s
    if owesPulse t .x || owesPulse t .y then s else cursorFree n t

/-- One step pulse of X or Y under the path (R72, R82, entry 15): a micrometre of that axis's own command toward the
point of the cursor. Where the axis stands at that point, the cursor first moves on to where the next pulse is due;
where that is the other axis's pulse, this one is not due. -/
def pathPulse (a : Axis) (s : State) : State :=
  if owesPulse s a then stepToPoint a s
  else if owesPulse s (acrossAxis a) then s
  else
    let t := cursorToPulse 4 s
    if owesPulse t a then stepToPoint a t else s

/-! ### The override (R77, R78) -/

/-- FORWARD motion on a jet segment above the scaled envelope is brought down to it at once (R78). -/
def clampToEnvelope (s : State) : State :=
  match s.setups.setup, s.path.cursor, s.cursorSegment with
  | some m, some p, some g =>
    if g.cls.isJet && s.path.dir = .forward && s.path.motion ≠ .rest then
      setSpeed (min s.path.speedSq (scaledAt s m g p.dist * scaledAt s m g p.dist)) s
    else s
  | _, _, _ => s

/-- The effective override is formed from the requested override and the key mode, and acts at once (R77, R78). -/
def formOverride (s : State) : State :=
  clampToEnvelope (s.onPath fun p => { p with override := s.ports.keyMode.cap s.cyc.reqOverride })

/-! ### Z moves (R89, R90, R122) -/

/-- The Z command reaches a target at rest. -/
def zReaches (target : Int) (s : State) : State :=
  (s.onAxis .z fun c => { c.jump target with speedSq := 0 }).setZ .rest

/-- Z is at rest where it stands. -/
def zRests (s : State) : State := (s.onAxis .z fun c => { c with speedSq := 0 }).setZ .rest

/-- What a completed Z move brings: it ends the collision suspension, in a COLLISION where CONTACT is still asserted
(R122); otherwise the cycle goes on. -/
def zArrived (go : State → State) (s : State) : State :=
  if s.cyc.suspension then
    let s := s.onCyc fun c => { c with suspension := false }
    if s.lines.contact then faultAction .collision s else go s
  else go s

/-- The Cycle Controller names a Z move (R89); a move to the present position is complete at once. -/
def nameZMove (target : Int) (purpose : ZPurpose) (go : State → State) (s : State) : State :=
  if (s.chan .z).command = target then zArrived go s
  else (s.onAxis .z fun c => { c with speedSq := 0 }).setZ (.moving target purpose)

/-- The surface Z of a contour; without one the nominal surface (entry 36). -/
def Contour.surfaceAt (m : MachineSetup) (r : Contour) : Int := r.surfaceZ.getD m.nominalSurface

/-- The pierce height (R117). -/
def pierceHeight (m : MachineSetup) (r : Contour) (f : ProcessSet) : Int :=
  min (r.surfaceAt m + f.hPierce) m.axes.z.softMax

/-- The cut height (R117). -/
def cutHeight (m : MachineSetup) (r : Contour) (f : ProcessSet) : Int :=
  min (r.surfaceAt m + f.hCut) m.axes.z.softMax

end Sys2Proof.Machine
end

