-- ==== Sys2Proof/Machine/Cycle.lean ====
section
/-! DEFINITION. The cycle (07_the_contour_cycle.md, 08_hold_backup_and_rejoin.md): the steps of the pierce methods (R103 to
R106), the phases (R114 to R120), the continuation (R10, R11), the completion of segments with the retained window
(R25, R34, R74), and the resume of a hold (R138 to R144). Each step is written after those it can lead to at once. -/

namespace Sys2Proof.Machine

/-! ### The pierce (R103 to R106) -/

/-- The pierce stands at a step of its method (R91). -/
def setStep (n : Option Nat) (s : State) : State := s.onJet fun j => { j with pierceStep := n }

/-- The pierce timer stops. -/
def stopPierceTimer (s : State) : State := s.onJet fun j => { j with pierceTimer := .stopped }

/-- Pierce complete (R103): the flag is set, the phase is CUT, and the path is released, unless a deferred REQUEST hold
is taken at that instant (R132). -/
def pierceComplete (s : State) : State :=
  let s := s.modActive fun r => { r with pierceComplete := true }
  let s := enterState .running (some .cut) (setStep none s)
  if s.cyc.deferredHold then takeHold .request {} s
  else releasePath s

/-- The jet enters RAMP (R99). -/
def enterRamp (ms : Nat) (s : State) : State :=
  if !valvesAllowed s.cyc then s
  else
    reformDemand (s.onJet fun j =>
      { j with state := .ramp, settle := .stopped, dip := .stopped, dipWatch := false, pierceTimer := .ramp 0 ms })

/-- STATIC, step 7: Z to cut height with the jet open (R104). -/
def static7 (s : State) : State :=
  withCut (fun m r f s => nameZMove (cutHeight m r f) .pierceStep pierceComplete (setStep (some 7) s)) s

/-- STATIC, step 6: the T_dwell dwell (R104). -/
def static6 (s : State) : State :=
  withCut (fun _ _ f s => startDwell (.tDwell f.tDwell) f.tDwell static7 (setStep (some 6) s)) s

/-- STATIC, step 5: the ramp has ended; the jet enters CUT (R104). -/
def static5 (s : State) : State := enterJet .cut static6 (setStep (some 5) (stopPierceTimer s))

/-- STATIC, step 4: the ramp (R104); a T_ramp of 0 passes to step 5 at once (R99). -/
def static4 (s : State) : State :=
  withCut (fun _ _ f s =>
    let s := setStep (some 4) s
    if f.tRamp = 0 then static5 s else enterRamp f.tRamp s) s

/-- STATIC, step 3: the T_low dwell (R104). -/
def static3 (s : State) : State :=
  withCut (fun _ _ f s => startDwell (.tLow f.tLow) f.tLow static4 (setStep (some 3) s)) s

/-- STATIC, step 2: OPEN LOW (R104). -/
def static2 (s : State) : State := openJet .low true static3 (setStep (some 2) s)

/-- STATIC, step 1: Z to pierce height (R104). -/
def static1 (s : State) : State :=
  withCut (fun m r f s => nameZMove (pierceHeight m r f) .pierceStep static2 (setStep (some 1) s)) s

/-- CREEP, step 5: the jet enters CUT, the creep limit is lifted, the pierce is complete at once (R105). -/
def creep5 (s : State) : State := pierceComplete (enterJet .cut id (setStep (some 5) (stopPierceTimer s)))

/-- CREEP, step 4: phase CUT, the ramp, and the path released under the creep limit (R105); a T_ramp of 0 completes the
pierce at the pierce point. -/
def creep4 (s : State) : State :=
  withCut (fun _ _ f s =>
    let s := enterState .running (some .cut) (setStep (some 4) s)
    if f.tRamp = 0 then creep5 s else releasePath (enterRamp f.tRamp s)) s

/-- CREEP, step 3: the T_low dwell (R105). -/
def creep3 (s : State) : State :=
  withCut (fun _ _ f s => startDwell (.tLow f.tLow) f.tLow creep4 (setStep (some 3) s)) s

/-- CREEP, step 2: OPEN LOW (R105). -/
def creep2 (s : State) : State := openJet .low true creep3 (setStep (some 2) s)

/-- CREEP, step 1: Z to cut height (R105). -/
def creep1 (s : State) : State :=
  withCut (fun m r f s => nameZMove (cutHeight m r f) .pierceStep creep2 (setStep (some 1) s)) s

/-- DRILLED, step 4: Z to cut height with the jet open (R106). -/
def drilled4 (s : State) : State :=
  withCut (fun m r f s => nameZMove (cutHeight m r f) .pierceStep pierceComplete (setStep (some 4) s)) s

/-- DRILLED, step 3: the T_dwell dwell (R106). -/
def drilled3 (s : State) : State :=
  withCut (fun _ _ f s => startDwell (.tDwell f.tDwell) f.tDwell drilled4 (setStep (some 3) s)) s

/-- DRILLED, step 2: OPEN CUT (R106). -/
def drilled2 (s : State) : State := openJet .cut true drilled3 (setStep (some 2) s)

/-- DRILLED, step 1: Z to pierce height (R106). -/
def drilled1 (s : State) : State :=
  withCut (fun m r f s => nameZMove (pierceHeight m r f) .pierceStep drilled2 (setStep (some 1) s)) s

/-- The pierce method of the active contour. -/
def activeMethod (s : State) : Option PierceMethod := s.activeContour.map Contour.method

/-- The surface mode of the active contour. -/
def activeSurfaceMode (s : State) : Option SurfaceMode := s.activeContour.map Contour.surfaceMode

/-- The pierce begins at step 1 of the contour's method (R103, R107). -/
def beginPierce (s : State) : State :=
  match activeMethod s with
  | none => s
  | some .static => static1 s
  | some .creep => creep1 s
  | some .drilled => drilled1 s

/-- What the completion of a pierce's Z move begins (R104 to R106). -/
def pierceMoved (s : State) : State :=
  match activeMethod s, s.jet.pierceStep with
  | some .static, some 1 => static2 s
  | some .static, some 7 => pierceComplete s
  | some .creep, some 1 => creep2 s
  | some .drilled, some 1 => drilled2 s
  | some .drilled, some 4 => pierceComplete s
  | _, _ => s

/-! ### Probe and approach (R114 to R116) -/

/-- The phase becomes PIERCE from PROBE: the first jet segment becomes ACTIVE with the cursor at distance 0 on it
(R24, R118). -/
def enterPierce (s : State) : State :=
  match s.activeJets.head? with
  | none => s
  | some g =>
    let s := s.modSegment g.seq fun g => { g with state := .active }
    let s := jumpCursor ⟨g.seq, 0⟩ (s.onPath fun p => { p with speedSq := 0, motion := .rest })
    beginPierce (enterState .running (some .pierce) s)

/-- The probe target: the present Z less the probe travel, and not below the Z soft minimum (R90, R115, entry 21). -/
def probeTarget (m : MachineSetup) (z : Int) : Int := max (z - m.probeTravel) m.axes.z.softMin

/-- The probe descent starts; with CONTACT asserted it is a COLLISION instead (R115, R121). -/
def startDescent (s : State) : State :=
  withSetup (fun m s =>
    if s.lines.contact then faultAction .collision s
    else (s.onAxis .z fun c => { c with speedSq := 0 }).setZ (.probing (probeTarget m (s.chan .z).command))) s

/-- The phase becomes PROBE (R115, R116). -/
def enterProbe (s : State) : State :=
  let s := enterState .running (some .probe) s
  match activeSurfaceMode s with
  | none => s
  | some .probe => startDescent s
  | some .carry => enterPierce (s.modActive fun r => { r with surfaceZ := s.cyc.surface })

/-- The end of the TRAVERSEs (R74, R114): in RUNNING the phase becomes PROBE; in a deceleration the cursor becomes absent
and no phase is entered (R125, R134). -/
def endTraverses (s : State) : State :=
  let s := clearCursor s
  if advancing s then enterProbe s else settleRest s

/-- The first segment of the active contour in the store, where it is a TRAVERSE. -/
def nextTraverse (s : State) : Option Segment :=
  match s.activeSegments.head? with
  | some g => if g.cls = .traverse then some g else none
  | none => none

/-- A TRAVERSE becomes ACTIVE with the cursor at its start; it moves off, unless the path is coming to rest (R24, R76,
R79). -/
def beginTraverse (g : Segment) (s : State) : State :=
  let s := s.modSegment g.seq fun g => { g with state := .active }
  let s := setCursor (some ⟨g.seq, 0⟩) s
  if advancing s then s.onPath fun p => { p with dir := .forward, speedSq := 0, motion := .run }
  else settleRest (s.onPath fun p => { p with speedSq := 0, motion := .rest })

/-- A completed TRAVERSE leaves the store; the next one becomes ACTIVE, or the TRAVERSEs have ended (R25, R74). -/
def completeTraverse (seq : Nat) (s : State) : State :=
  let s := s.dropSegments fun g => g.seq == seq
  match nextTraverse s with
  | some g => beginTraverse g s
  | none => endTraverses s

/-- The start point and the length of a contour's first TRAVERSE, written as it becomes ACTIVE (R22). -/
def Segment.startAt (q : Point) (g : Segment) : Segment :=
  match g.start with
  | some _ => g
  | none => { g with start := some q, length := some (g.finish.sub q).norm }

/-- The X and Y command positions. -/
def headPoint (s : State) : Point := ⟨s.axes.x.command, s.axes.y.command⟩

/-- Z has reached clearance in APPROACH (R114, R138): the ACTIVE TRAVERSE goes on, or the first becomes ACTIVE, one of
length 0 completing at once (R22), or the TRAVERSEs have ended. -/
def approachArrived (s : State) : State :=
  match nextTraverse s with
  | none => endTraverses s
  | some g =>
    if g.state = .active then s.onPath fun p => { p with dir := .forward, speedSq := 0, motion := .run }
    else
      let s := s.modSegment g.seq (Segment.startAt (headPoint s))
      if (g.startAt (headPoint s)).len = 0 then completeTraverse g.seq s else beginTraverse g s

/-- Z to the Z clearance, for a purpose. -/
def toClearance (purpose : ZPurpose) (go : State → State) (s : State) : State :=
  withSetup (fun m s => nameZMove m.zClearance purpose go s) s

/-- The approach begins with Z to clearance (R114). -/
def beginApproach (s : State) : State := toClearance .approach approachArrived s

/-! ### The continuation and the retract (R10, R11, R120) -/

/-- The head of the Run List is taken (R10): it becomes ACTIVE, and the phase APPROACH. -/
def takeContour (c : Fin Config.contours) (rest : List (Fin Config.contours)) (s : State) : State :=
  let s := s.onProg fun p => { p with runList := rest }
  let s := s.modContour c fun r => { r with status := .active }
  enterState .running (some .approach) (s.onCyc fun y => { y with active := some c })

/-- The continuation of the cycle (R11): what follows the taking of a contour is left to `go`. -/
def continuationWith (go : State → State) (s : State) : State :=
  if s.cyc.cycleStop then endCycle s
  else
    match s.prog.runList with
    | c :: rest => go (takeContour c rest s)
    | [] => if s.loading.isSome then enterState .running (some .wait) s else endCycle s

/-- The continuation of the cycle (R11). -/
def continuation (s : State) : State := continuationWith beginApproach s

/-- The retract has finished: the contour becomes DONE, and the cycle continues (R11, R120). -/
def contourDone (s : State) : State :=
  continuation (dropActive (fun r => { r with status := .done }) s)

/-- The phase becomes RETRACT: the jet is commanded CLOSED and Z goes to clearance (R120). -/
def beginRetract (s : State) : State :=
  toClearance .retract contourDone (enterState .running (some .retract) (closeJet s))

/-! ### Completion of segments (R25, R34, R74) -/

/-- What the retained window keeps of the RETAINED segments, oldest first (R34). -/
def windowKeeps (reach : Nat) : List Segment → List Segment
  | [] => []
  | [g] => [g]
  | g :: rest =>
    if Config.maxRetained < rest.length + 1 || reach ≤ (rest.map (·.len)).sum then windowKeeps reach rest
    else g :: rest

/-- The window test at a jet segment's completion (R34). -/
def testWindow (s : State) : State :=
  withSetup (fun m s =>
    let retained := s.activeSegments.filter fun g => g.state == .retained
    let gone := retained.take (retained.length - (windowKeeps m.backupReach retained).length)
    s.dropSegments fun g => gone.any fun h => h.seq == g.seq) s

/-- The end of the jet segments (R74, R144): the cursor becomes absent; in RUNNING, and in a REJOIN that has reached it
(entry 30), the phase becomes RETRACT; in a deceleration no phase is entered (R125, R134). -/
def endJets (s : State) : State :=
  let s := clearCursor s
  if s.cyc.abortPending then settleRest s
  else
    match s.cyc.mstate with
    | .running => beginRetract s
    | .resuming => beginRetract (s.onCyc fun c => { c with hold := none })
    | _ => settleRest s

/-- A completed jet segment becomes RETAINED, the progress fields rise and the window is tested (R2, R25, R34); the next
jet segment becomes ACTIVE, the speed carrying over, or the jet segments have ended (R74). -/
def completeJet (g : Segment) (s : State) : State :=
  let s := s.modSegment g.seq fun g => { g with state := .retained }
  let s := s.modActive fun r => { r with completed := r.completed + 1, lengthDone := r.lengthDone + g.len }
  let s := testWindow s
  match segmentAfter s g.seq with
  | none => endJets s
  | some h =>
    let s := s.modSegment h.seq fun h => { h with state := .active }
    followClass h.cls (setCursor (some ⟨h.seq, 0⟩) s)

/-- The cursor moves on to the end of its segment, with the speed it then has (entry 14). -/
def arriveAtEnd (m : MachineSetup) (p : Pos) (g : Segment) (s : State) : State :=
  jumpCursor ⟨g.seq, g.len⟩ (setSpeed (forwardSpeed s m g p.dist (g.len - p.dist)) s)

/-- SEGMENT_COMPLETION (R74, R144): a cursor that moves FORWARD reaches the end of the ACTIVE segment, or that of the
last jet segment where none is ACTIVE (R135). -/
def segmentCompleted (s : State) : State :=
  match s.setups.setup, s.path.cursor, s.cursorSegment with
  | some m, some p, some g =>
    if s.path.dir = .reverse || s.path.motion = .rest then s
    else
      match g.state with
      | .active =>
        let s := arriveAtEnd m p g s
        if g.cls = .traverse then completeTraverse g.seq s else completeJet g s
      | .retained => if (segmentAfter s g.seq).isNone then endJets (arriveAtEnd m p g s) else s
      | .loaded | .planned => s
  | _, _, _ => s

/-- SEGMENT_COMPLETION. -/
def execSegmentCompletion (s : State) : Host.Outcome State Fault Refusal := .next (live segmentCompleted s)

/-- SEGMENT_BOUNDARY_PASSED (R75, R108): a cursor that is not completing a segment passes to the next or the previous
segment of the contour. -/
def boundaryPassed (s : State) : State :=
  match s.setups.setup, s.path.cursor, s.cursorSegment with
  | some m, some p, some g =>
    if s.path.motion = .rest then s
    else
      match s.path.dir with
      | .forward =>
        if g.state ≠ .retained then s
        else
          match segmentAfter s g.seq with
          | none => endJets (arriveAtEnd m p g s)
          | some h => followClass h.cls (jumpCursor ⟨h.seq, 0⟩ (arriveAtEnd m p g s))
      | .reverse =>
        match segmentBefore s g.seq with
        | none => s
        | some h =>
          let q : Pos := ⟨h.seq, h.len⟩
          jumpCursor q (setSpeed (reverseSpeed s m p.dist (targetDistance s q)) s)
  | _, _, _ => s

/-- SEGMENT_BOUNDARY_PASSED. -/
def execSegmentBoundaryPassed (s : State) : Host.Outcome State Fault Refusal := .next (live boundaryPassed s)

/-- PATH_AT_REST (R79): hold deceleration has brought the path to rest, over the last micrometres that bring no pulse
(entry 15). -/
def pathRested (s : State) : State :=
  if s.path.motion = .decel then
    settleRest ((cursorFree 4 s).onPath fun p => { p with speedSq := 0, motion := .rest })
  else s

/-- PATH_AT_REST. -/
def execPathAtRest (s : State) : Host.Outcome State Fault Refusal := .next (live pathRested s)

/-! ### The resume (R138 to R144) -/

/-- Set the resume step (R128). -/
def setResumeStep (r : ResumeStep) (s : State) : State :=
  s.onCyc fun c => { c with hold := c.hold.map fun h => { h with step := some r } }

/-- The hold record is cleared. -/
def clearHold (s : State) : State := s.onCyc fun c => { c with hold := none }

/-- The resume step becomes REJOIN (R143); a REJOIN that begins on a TAB enters TAB (R108). -/
def beginRejoin (s : State) : State :=
  let s := releasePath (setSpeed 0 (setResumeStep .rejoin (stopPierceTimer s)))
  match s.cursorSegment with
  | none => s
  | some g => followClass g.cls s

/-- The T_rejoin dwell (R142). -/
def kerfDwell (s : State) : State :=
  withCut (fun _ _ f s => startDwell (.tRejoin f.tRejoin) f.tRejoin beginRejoin s) s

/-- The resume step becomes KERF_START: the KERF START command (R142). -/
def kerfStart (s : State) : State := openJet .cut false kerfDwell (setResumeStep .kerfStart s)

/-- The contour's pierce is complete. -/
def pierced (s : State) : Bool := s.activeContour.map (·.pierceComplete) == some true

/-- The BACKUP target is reached (R141): KERF_START follows, or, with the pierce incomplete, the pierce again from its
step 1 (R139). -/
def backupReached (s : State) : State :=
  match s.cyc.hold.bind (·.rejoin) with
  | none => s
  | some t =>
    let s := jumpCursor t (s.onPath fun p => { p with speedSq := 0, motion := .rest })
    if pierced s then kerfStart s
    else
      beginPierce (enterState .running (some .pierce) (clearHold s))

/-- BACKUP_TARGET_REACHED. -/
def targetReached (s : State) : State :=
  if backingUp s && s.path.motion = .run && !s.cyc.abortPending then backupReached s else s

/-- BACKUP_TARGET_REACHED. -/
def execBackupTargetReached (s : State) : Host.Outcome State Fault Refusal := .next (live targetReached s)

/-- T_REJOIN_DWELL_END (R142). -/
def rejoinDwellEnded (s : State) : State :=
  match s.jet.pierceTimer with
  | .tRejoin _ => beginRejoin s
  | .stopped | .tLow _ | .ramp _ _ | .tDwell _ => s

/-- T_REJOIN_DWELL_END. -/
def execTRejoinDwellEnd (s : State) : Host.Outcome State Fault Refusal := .next (live rejoinDwellEnded s)

/-- The position just ahead of another: one micrometre on, or the start of the next segment (R144). At the end of the
ACTIVE segment it is that end, where the segment has yet to complete (entry 30). -/
def justAhead (s : State) (p : Pos) : Pos :=
  match s.segment? p.seq with
  | none => p
  | some g =>
    if p.dist < g.len then ⟨p.seq, p.dist + 1⟩
    else if g.state = .active then p
    else
      match segmentAfter s p.seq with
      | none => p
      | some h => ⟨h.seq, 0⟩

/-- The end of REJOIN (R144): the hold record is cleared and the state becomes RUNNING in phase CUT. -/
def endRejoin (s : State) : State := enterState .running (some .cut) (clearHold s)

/-- The jet follows the class of the segment under a cursor that has come onto another one (R108, R143). -/
def followBoundary (was : Pos) (s : State) : State :=
  match s.path.cursor, s.cursorSegment with
  | some p, some g => if p.seq = was.seq then s else followClass g.cls s
  | _, _ => s

/-- JET_CLOSE_POINT_PASSED (R144). -/
def closePointPassed (s : State) : State :=
  match s.setups.setup, s.path.cursor, s.cursorSegment, s.cyc.hold.bind (·.jetClose) with
  | some m, some p, some g, some jc =>
    if rejoining s && s.path.motion = .run && !s.cyc.abortPending then
      if jc.behind p then endRejoin s
      else
        let q := justAhead s jc
        let n := if q.seq = p.seq then q.dist - p.dist else g.len - p.dist
        endRejoin (followBoundary p (jumpCursor q (setSpeed (forwardSpeed s m g p.dist n) s)))
    else s
  | _, _, _, _ => s

/-- JET_CLOSE_POINT_PASSED. -/
def execJetClosePointPassed (s : State) : Host.Outcome State Fault Refusal := .next (live closePointPassed s)

/-- The position `b` µm back from distance `off` of the first segment of a list, newest first; the start of the last
segment bounds it (R140). With `b` at 0 it is the jet-close point itself, even at the end of a segment (entry 45). -/
def walkBack : List Segment → Nat → Nat → Option Pos
  | [], _, _ => none
  | [g], off, b => some ⟨g.seq, off - b⟩
  | g :: h :: rest, off, b => if b ≤ off then some ⟨g.seq, off - b⟩ else walkBack (h :: rest) h.len (b - off)

/-- The lower bound of R140: the start of the oldest of the contour's jet segments in the store. -/
def lowerBound (s : State) : Option Pos := s.activeJets.head?.map fun g => ⟨g.seq, 0⟩

/-- The jet-close point as a RESUME leaves it: set forward to the lower bound where it lies behind that (R140). -/
def keptClose (s : State) (jc : Pos) : Pos :=
  match lowerBound s with
  | none => jc
  | some lb => if jc.behind lb then lb else jc

/-- The rejoin point for a jet-close point that is not behind the lower bound (R140). -/
def rejoinPoint (s : State) (b : Nat) (jc : Pos) : Pos :=
  (walkBack (s.activeJets.reverse.filter fun g => g.seq ≤ jc.seq) jc.dist b).getD jc

/-- BACKUP starts toward a rejoin point (R141): the cursor is placed at the stop point, in REVERSE. -/
def beginBackup (jc : Option Pos) (t : Pos) (s : State) : State :=
  let stop := (s.cyc.hold.bind (·.stop)).getD t
  let s := s.onCyc fun c =>
    { c with hold := c.hold.map fun h => { h with jetClose := jc, rejoin := some t, step := some .backup } }
  let s := enterState .resuming (some .cut) s
  jumpCursor stop (s.onPath fun p => { p with dir := .reverse, speedSq := 0, motion := .run })

/-- A BACKUP target at the cursor's own position is reached at once, with no motion (R75). -/
def reachedAtOnce (s : State) : State :=
  if s.path.cursor = s.cyc.hold.bind (·.rejoin) then targetReached s else s

/-- The RESUME of a hold in phase CUT (R139, R140). -/
def resumeCut (h : HoldRecord) (s : State) : State :=
  match lowerBound s, s.activeSet with
  | some lb, some f =>
    if pierced s then
      let jc := keptClose s (h.jetClose.getD lb)
      beginBackup (some jc) (rejoinPoint s f.backup jc) s
    else beginBackup h.jetClose lb s
  | _, _ => s

/-- A contour that a continuation has just taken goes on with its approach (R10, R114). -/
def approachTaken (s : State) : State := if s.cyc.phase = some .approach then beginApproach s else s

/-- The state in which the reply to a RESUME is formed, by the phase in the hold record (R138, R139, entry 23). -/
def resumeEntered (h : HoldRecord) (s : State) : State :=
  match h.phase with
  | .wait => continuationWith id (enterState .running (some .wait) (clearHold s))
  | .approach => enterState .running (some .approach) (clearHold s)
  | .probe => enterState .running (some .probe) (clearHold s)
  | .pierce => enterState .running (some .pierce) (clearHold s)
  | .cut => resumeCut h s
  | .retract => enterState .running (some .retract) (clearHold s)

/-- How the resumed phase goes on at that instant (R138, R139, R141). -/
def resumeGoes : Phase → State → State
  | .wait => approachTaken
  | .approach => beginApproach
  | .probe => toClearance .reprobe startDescent
  | .pierce => beginPierce
  | .cut => reachedAtOnce
  | .retract => toClearance .retract contourDone

/-! ### Z events (R89, R90) -/

/-- What the completion of a Z move begins, by the purpose it was named for. -/
def zPurposeDone : ZPurpose → State → State
  | .approach => approachArrived
  | .reprobe => startDescent
  | .pierceRise => enterPierce
  | .pierceStep => pierceMoved
  | .retract => contourDone

/-- Z_MOVE_COMPLETE (R89, R134): in a deceleration no step begins and no move is named. -/
def zMoveCompleted (s : State) : State :=
  match s.zmotion with
  | .moving t purpose => zArrived (fun s => if advancing s then zPurposeDone purpose s else settleRest s) (zReaches t s)
  | .stopMove t => zArrived settleRest (zReaches t s)
  | .rest | .probing _ | .contactStop | .stopProbe => s

/-- Z_MOVE_COMPLETE. -/
def execZMoveComplete (s : State) : Host.Outcome State Fault Refusal := .next (live zMoveCompleted s)

/-- The rise to pierce height after the probe's contact (R115). -/
def riseFromContact (s : State) : State :=
  withCut (fun m r f s => nameZMove (pierceHeight m r f) .pierceRise enterPierce s) s

/-- Z_AT_REST (R89, R90): after a contact the rise is named; after a hold or an ABORT Z is at rest. -/
def zRested (s : State) : State :=
  match s.zmotion with
  | .contactStop =>
    let s := zRests s
    if advancing s then riseFromContact s else settleRest s
  | .stopMove _ | .stopProbe => settleRest (zRests s)
  | .rest | .moving _ _ | .probing _ => s

/-- Z_AT_REST. -/
def execZAtRest (s : State) : Host.Outcome State Fault Refusal := .next (live zRested s)

/-- PROBE_END_OF_TRAVEL (R90, R115): the target is reached without contact, and the NO_SURFACE hold is raised. -/
def probeEnded (s : State) : State :=
  match s.zmotion with
  | .probing t => holdCause .noSurface {} (zReaches t s)
  | .rest | .moving _ _ | .contactStop | .stopMove _ | .stopProbe => s

/-- PROBE_END_OF_TRAVEL. -/
def execProbeEndOfTravel (s : State) : Host.Outcome State Fault Refusal := .next (live probeEnded s)

/-! ### Band entries and the pierce timer -/

/-- A band entry that stops the settle timer is handed to the step that waits on it (R97). -/
def bandHanded (s : State) : State :=
  if s.cyc.mstate = .resuming && resumeStep s = some .kerfStart then kerfDwell s
  else
    match activeMethod s, s.jet.pierceStep with
    | some .static, some 2 => static3 s
    | some .static, some 5 => static6 s
    | some .creep, some 2 => creep3 s
    | some .drilled, some 2 => drilled3 s
    | _, _ => s

/-- A band entry (R97, R98): it stops the settle timer, arms the dip watch in CUT and TAB and is handed on, or it stops
the dip timer. -/
def bandEntered (s : State) : State :=
  match s.jet.settle with
  | .running _ => bandHanded (s.onJet fun j => { j with settle := .stopped, dipWatch := j.state.watched })
  | .stopped => s.onJet fun j => { j with dip := .stopped }

/-- A band loss (R98): with the dip watch armed the dip timer starts. -/
def bandLost (s : State) : State :=
  withSetup (fun m s => if s.jet.dipWatch then s.onJet fun j => { j with dip := .running m.dipAllowance } else s) s

/-- PFB has changed (R96): the band state is formed again. -/
def pfbChanged (s : State) : State :=
  let was := s.jet.bandIn
  let now := bandOf s s.jet.demand s.lines.pfb
  let s := s.onJet fun j => { j with bandIn := now }
  if s.jet.state.banded then
    if now && !was then bandEntered s else if was && !now then bandLost s else s
  else s

/-- PFB_CHANGE. -/
def execPfbChange (value : Nat) (s : State) : Host.Outcome State Fault Refusal :=
  .next (live pfbChanged (s.onLines fun l => { l with pfb := value }))

/-- T_LOW_DWELL_END (R104, R105). -/
def tLowEnded (s : State) : State :=
  match s.jet.pierceTimer, activeMethod s with
  | .tLow _, some .static => static4 (stopPierceTimer s)
  | .tLow _, some .creep => creep4 (stopPierceTimer s)
  | _, _ => s

/-- T_LOW_DWELL_END. -/
def execTLowDwellEnd (s : State) : Host.Outcome State Fault Refusal := .next (live tLowEnded s)

/-- RAMP_END (R99, R104, R105). -/
def rampEnded (s : State) : State :=
  match s.jet.pierceTimer, activeMethod s with
  | .ramp _ _, some .static => static5 s
  | .ramp _ _, some .creep => creep5 s
  | _, _ => s

/-- RAMP_END. -/
def execRampEnd (s : State) : Host.Outcome State Fault Refusal := .next (live rampEnded s)

/-- T_DWELL_END (R104, R106). -/
def tDwellEnded (s : State) : State :=
  match s.jet.pierceTimer, activeMethod s with
  | .tDwell _, some .static => static7 (stopPierceTimer s)
  | .tDwell _, some .drilled => drilled4 (stopPierceTimer s)
  | _, _ => s

/-- T_DWELL_END. -/
def execTDwellEnd (s : State) : Host.Outcome State Fault Refusal := .next (live tDwellEnded s)

/-! ### Contact (R115, R121, R122) -/

/-- A probe contact (R86, R90, R115): the latch captures, the surface is written, the collision suspension turns on and
the descent comes to rest. -/
def probeContact (s : State) : State :=
  let z := (s.chan .z).encoder
  let s := s.onAxis .z fun c => { c with latch := some z }
  let s := s.onCyc fun c => { c with surface := some z, suspension := true }
  (s.modActive fun r => { r with surfaceZ := some z }).setZ .contactStop

/-- CONTACT asserts (R121): a contact of the probe descent, or a COLLISION while the collision watch is on. -/
def contactMade (s : State) : State :=
  match s.zmotion with
  | .probing _ => probeContact s
  | .rest | .moving _ _ | .contactStop | .stopMove _ | .stopProbe =>
    if watchOn s then faultAction .collision s else s

/-- CONTACT_ASSERT. -/
def execContactAssert (s : State) : Host.Outcome State Fault Refusal :=
  let edge := !s.lines.contact
  let s := s.onLines fun l => { l with contact := true }
  .next (if edge then live contactMade s else s)

/-- CONTACT negates: the collision suspension turns off (R122). -/
def contactGone (s : State) : State := s.onCyc fun c => { c with suspension := false }

/-- CONTACT_NEGATE. -/
def execContactNegate (s : State) : Host.Outcome State Fault Refusal :=
  let s := s.onLines fun l => { l with contact := false }
  .next (live contactGone s)

end Sys2Proof.Machine
end

