-- ==== Sys2Proof/Machine/Manual.lean ====
section
/-! DEFINITION. Homing and jogging (10_homing_and_jogging.md, R159 to R171): how an axis begins and ends its homing, how a
jog starts, stops and ends, what one step pulse does under each motion source (R82, entries 15, 16 and 18), and the
motion events of homing and jogging. -/

namespace Sys2Proof.Machine

/-! ### One axis -/

/-- The other side. -/
def otherSide : Side → Side
  | .neg => .pos
  | .pos => .neg

/-- One step toward a side, with the square of the speed it then has. -/
def Channel.stepped (d : Side) (v : Nat) (c : Channel) : Channel :=
  { c.pulse (c.command + (match d with | .pos => 1 | .neg => -1)) with speedSq := v }

/-- The command position of an axis. -/
def State.command (s : State) (a : Axis) : Int := (s.chan a).command

/-- The axis comes to a position at rest, with the pulses and counts this brings (entry 14). -/
def axisReaches (a : Axis) (t : Int) (s : State) : State := s.onAxis a fun c => { c.jump t with speedSq := 0 }

/-- The side of an axis on which a position lies. -/
def sideOf (c : Channel) (t : Int) : Side := if c.command < t then .pos else .neg

/-- The square of the speed that an axis brings into a motion toward a side: a motion the other way has come to rest
before it. -/
def carried (d : Side) (c : Channel) : Nat := if c.dir = d then c.speedSq else 0

/-- One step of a deceleration at `acc`, where the axis's speed carries it a micrometre further. -/
def coast (acc : Nat) (c : Channel) : Channel :=
  if 2 * acc ≤ c.speedSq then c.stepped c.dir (fallen acc 1 c.speedSq) else c

/-- The square of a speed one micrometre on, `n` µm before a point at which the motion is to rest: toward `vMax`, and
within the fall to that point, no change faster than `acc` (R89, R167, R169). -/
def approachSpeed (acc vMax n v : Nat) : Nat := max (fallen acc 1 v) (min (slew acc vMax 1 v) (stopping acc (n - 1)))

/-- One step of a motion toward a target at which it rests (R89). -/
def stepToward (acc vMax : Nat) (t : Int) (c : Channel) : Channel :=
  if c.command = t then c
  else c.stepped (sideOf c t) (approachSpeed acc vMax (t - c.command).natAbs (carried (sideOf c t) c))

/-! ### Homing (R160 to R165) -/

/-- The home direction of an axis. -/
def homeSide (x : AxisSetup) : Side := if x.homeDirection = 0 then .neg else .pos

/-- The seek travel at which a homing fails (R164). -/
def seekLimit (x : AxisSetup) : Nat := (x.softMax - x.softMin + 10000).toNat

/-- An axis begins homing (R161). -/
def beginHoming (a : Axis) (s : State) : State :=
  let s := s.onAxis a fun c => { c with homed := false, speedSq := 0 }
  s.onHoming fun h =>
    { h with axis := some a, step := some (if s.lines.homes.get a then .clear else .seek), travel := 0, stop := .none }

/-- Homing has ended: the items are absent and the state becomes IDLE (R163, R164). That the seek travel is then 0 also
after a homing that failed or was given up is the model's choice (entry 43). -/
def leaveHoming (s : State) : State := enterState .idle none (s.onHoming fun _ => .reset)

/-- The homing of an axis ends with its flag set; the next axis of the list begins, or the state becomes IDLE
(R163). -/
def endHoming (a : Axis) (s : State) : State :=
  let s := s.onAxis a fun c => { c with homed := true, speedSq := 0 }
  match s.homing.remaining with
  | [] => leaveHoming s
  | b :: rest => beginHoming b (s.onHoming fun h => { h with remaining := rest })

/-- Homing is given up: no capture, no axis remains, and the homing axis decelerates to rest (R164, R165). -/
def giveUpHoming (s : State) : State := s.onHoming fun h => { h with remaining := [], stop := .givenUp }

/-- The window edge beyond which a command position lies, if any (R163, entry 39). -/
def edgeBeyond (x : AxisSetup) (p : Int) : Option Int :=
  if p < x.softMin then some x.softMin else if x.softMax < p then some x.softMax else none

/-- The homing axis with its setup and its step. -/
def homingNow (s : State) : Option (Axis × AxisSetup × HomingStep) :=
  match s.homing.axis, s.homing.step, s.setups.setup with
  | some a, some st, some m => some (a, m.axes.get a, st)
  | _, _, _ => none

/-- HOMING_CLEAR_AT_REST (R161): SEEK begins. -/
def clearRested (s : State) : State :=
  match homingNow s with
  | some (a, _, .clear) =>
    if s.homing.stop = .clearing then
      (s.onAxis a fun c => { c with speedSq := 0 }).onHoming fun h => { h with step := some .seek, stop := .none }
    else s
  | _ => s

/-- HOMING_CLEAR_AT_REST. -/
def execHomingClearAtRest (s : State) : Host.Outcome State Fault Refusal := .next (live clearRested s)

/-- HOMING_SETTLE_AT_REST (R163): the axis is homed, or RETURN begins. -/
def settleRested (s : State) : State :=
  match homingNow s with
  | some (a, x, .settle) =>
    if s.homing.stop ≠ .none then s
    else
      match edgeBeyond x (s.command a) with
      | none => endHoming a s
      | some _ =>
        (s.onAxis a fun c => { c with speedSq := 0 }).onHoming fun h => { h with step := some .ret }
  | _ => s

/-- HOMING_SETTLE_AT_REST. -/
def execHomingSettleAtRest (s : State) : Host.Outcome State Fault Refusal := .next (live settleRested s)

/-- HOMING_RETURN_AT_REST (R163): the axis stands at the window edge and is homed. -/
def returnRested (s : State) : State :=
  match homingNow s with
  | some (a, x, .ret) =>
    if s.homing.stop ≠ .none then s
    else endHoming a (axisReaches a ((edgeBeyond x (s.command a)).getD (s.command a)) s)
  | _ => s

/-- HOMING_RETURN_AT_REST. -/
def execHomingReturnAtRest (s : State) : Host.Outcome State Fault Refusal := .next (live returnRested s)

/-- HOMING_STOPPED_AT_REST (R164, R165): the axis has come to rest unhomed. -/
def homingStopped (s : State) : State :=
  match s.homing.axis with
  | none => s
  | some a =>
    if s.homing.stop = .givenUp then leaveHoming (s.onAxis a fun c => { c with speedSq := 0 }) else s

/-- HOMING_STOPPED_AT_REST. -/
def execHomingStoppedAtRest (s : State) : Host.Outcome State Fault Refusal := .next (live homingStopped s)

/-- The side toward which CLEAR or SEEK moves (R161). -/
def seekSide (x : AxisSetup) : HomingStep → Side
  | .clear => otherSide (homeSide x)
  | .seek | .settle | .ret => homeSide x

/-- SEEK_TRAVEL_LIMIT (R164): the homing of the axis fails, at the end of the travel, with the speed it then has
(entry 14). An axis whose homing is already given up raises no alert (entry 43). -/
def seekFailed (s : State) : State :=
  match homingNow s with
  | some (a, x, st) =>
    if s.homing.stop = .givenUp || (st ≠ .clear && st ≠ .seek) then s
    else
      let left : Int := (seekLimit x - s.homing.travel : Nat)
      let s := s.onAxis a fun c =>
        { c.jump (match seekSide x st with | .pos => c.command + left | .neg => c.command - left) with
          speedSq := if s.homing.stop = .none then min (x.homeSpeed * x.homeSpeed) (risen x.acceleration left.toNat c.speedSq)
                     else fallen x.acceleration left.toNat c.speedSq }
      let s := s.onHoming fun h => { h with travel := max h.travel (seekLimit x) }
      giveUpHoming (raiseAlert .homeFailed { axis := some a } (alertContext s) s)
  | none => s

/-- SEEK_TRAVEL_LIMIT. -/
def execSeekTravelLimit (s : State) : Host.Outcome State Fault Refusal := .next (live seekFailed s)

/-! ### Jogging (R166 to R170) -/

/-- The window that bounds a jog of an axis: its soft limits where it is homed and the state is not FAULT (R153, R167,
R169). -/
def jogWindow (s : State) (a : Axis) : Option AxisSetup :=
  if s.cyc.mstate ≠ .fault && (s.chan a).homed then s.setups.setup.map fun m => m.axes.get a else none

/-- The acceleration of an axis; without a Machine Setup a free value (entry 40). -/
def accelOf (s : State) (a : Axis) : Nat :=
  match s.setups.setup with
  | none => Config.unsetAcceleration (axisNumber a)
  | some m => (m.axes.get a).acceleration

/-- The jog slow speed of an axis; without a Machine Setup a free value (entry 40). -/
def jogSlowOf (s : State) (a : Axis) : Nat :=
  match s.setups.setup with
  | none => Config.unsetJogSpeed (axisNumber a)
  | some m => (m.axes.get a).jogSlow

/-- The jog speed of a JOG: fast only on a homed axis outside FAULT (R153, R166). -/
def jogSpeedOf (s : State) (a : Axis) (fast : Bool) : Nat :=
  match s.setups.setup with
  | none => jogSlowOf s a
  | some m => if fast && (s.chan a).homed && s.cyc.mstate ≠ .fault then (m.axes.get a).jogFast else jogSlowOf s a

/-- The jog keep; without a Machine Setup a free value (entry 40). -/
def jogKeepOf (s : State) : Nat :=
  match s.setups.setup with
  | none => Config.unsetJogKeep
  | some m => m.jogKeep

/-- The soft limit ahead of a jog in a direction. -/
def limitAhead (x : AxisSetup) : Side → Int
  | .neg => x.softMin
  | .pos => x.softMax

/-- A jog has ended with its axis at rest (R170): the items are absent; JOGGING becomes IDLE, and in FAULT the axis
tracks again and the fault cause is tested (R84, R153). -/
def endJog (s : State) : State :=
  match s.jog.axis with
  | none => s
  | some a =>
    let s := (s.onAxis a fun c => { c with speedSq := 0 }).onJog fun _ => .reset
    if s.cyc.mstate = .jogging then enterState .idle none s
    else if s.cyc.mstate = .fault then retestCause (s.onAxis a Channel.track)
    else s

/-- A jog is told to stop (R168, R170). -/
def stopJog (s : State) : State := if s.jog.axis.isSome then s.onJog fun j => { j with stopping := true } else s

/-- A continuous jog starts, or replaces the one under way; at a soft limit ahead the axis is at rest at once (R167,
R168, R170). -/
def startJog (a : Axis) (d : Side) (v : Nat) (s : State) : State :=
  let s := s.onJog fun _ =>
    { axis := some a, kind := some .continuous, direction := some d, speed := some v, target := none
      keep := .running (jogKeepOf s), stopping := false, slowing := false }
  match jogWindow s a with
  | none => s
  | some x => if (s.chan a).speedSq = 0 && s.command a = limitAhead x d then endJog s else s

/-- The target of a JOG_STEP: clamped to the window on a homed axis, with the LIMITED flag (R169). -/
def stepTarget (s : State) (a : Axis) (distance : Int) : Int × Bool :=
  let t := s.command a + distance
  match jogWindow s a with
  | none => (t, false)
  | some x => if t < x.softMin then (x.softMin, true) else if x.softMax < t then (x.softMax, true) else (t, false)

/-- A JOG_STEP starts, or replaces the jog under way; an axis that is moving first decelerates, and a target where the
axis stands at rest is reached at once (R169, R170). -/
def startStep (a : Axis) (distance : Int) (s : State) : State :=
  let t := (stepTarget s a distance).1
  let s := s.onJog fun _ =>
    { axis := some a, kind := some .step, direction := some (if distance < 0 then .neg else .pos)
      speed := some (jogSlowOf s a), target := some t, keep := .stopped, stopping := false
      slowing := (s.chan a).speedSq != 0 }
  if (s.chan a).speedSq = 0 && s.command a = t then endJog s else s

/-- KEEP_TIMER_EXPIRY (R168). -/
def keepExpired (s : State) : State :=
  match s.jog.keep with
  | .stopped => s
  | .running _ => s.onJog fun j => { j with keep := .stopped, stopping := true }

/-- KEEP_TIMER_EXPIRY. -/
def execKeepTimerExpiry (s : State) : Host.Outcome State Fault Refusal := .next (live keepExpired s)

/-- JOG_AT_REST (R167, R169, R170): the jog has stopped, has reached its target, or has reached the soft limit ahead. -/
def jogRested (s : State) : State :=
  match s.jog.axis with
  | none => s
  | some a =>
    if s.jog.stopping then endJog s
    else
      match s.jog.target, s.jog.direction, jogWindow s a with
      | some t, _, _ => endJog (axisReaches a t s)
      | none, some d, some x => endJog (axisReaches a (limitAhead x d) s)
      | none, _, _ => s

/-- JOG_AT_REST. -/
def execJogAtRest (s : State) : Host.Outcome State Fault Refusal := .next (live jogRested s)

/-! ### Step pulses (R82) -/

/-- A step that would leave the window is not made (R167). -/
def keepIn (w : Option AxisSetup) (c c' : Channel) : Channel :=
  match w with
  | none => c'
  | some x => if inWindow x c.command && !inWindow x c'.command then c else c'

/-- One step of a continuous jog (R167, R170): an axis that moves the other way first comes to rest. -/
def stepContinuous (acc vMax : Nat) (d : Side) (w : Option AxisSetup) (c : Channel) : Channel :=
  if c.dir ≠ d && 2 * acc ≤ c.speedSq then coast acc c
  else
    match w with
    | none => c.stepped d (slew acc vMax 1 (carried d c))
    | some x => c.stepped d (approachSpeed acc vMax (limitAhead x d - c.command).natAbs (carried d c))

/-- One step of a JOG_STEP (R169, entry 44). An axis that was moving first decelerates to rest; it then goes to the target
from rest, on from its rest point or back to it. The flag says whether it still decelerates. -/
def stepToTarget (acc vMax : Nat) (t : Int) (slowing : Bool) (c : Channel) : Channel × Bool :=
  if slowing && 2 * acc ≤ c.speedSq then (coast acc c, true)
  else if slowing then (stepToward acc vMax t { c with speedSq := 0 }, false)
  else (stepToward acc vMax t c, false)

/-- One step of the jog under way (R167, R169, R170). -/
def jogPulse (a : Axis) (s : State) : State :=
  let acc := accelOf s a
  let w := jogWindow s a
  let v := s.jog.speed.getD 0
  let c := s.chan a
  if s.jog.stopping then s.onAxis a fun _ => keepIn w c (coast acc c)
  else
    match s.jog.target, s.jog.direction with
    | some t, _ =>
      let r := stepToTarget acc v t s.jog.slowing c
      (s.onAxis a fun _ => keepIn w c r.1).onJog fun j => { j with slowing := r.2 }
    | none, some d => s.onAxis a fun _ => keepIn w c (stepContinuous acc v d w c)
    | none, none => s

/-- One step of the homing axis (R161 to R165); in CLEAR and SEEK the seek travel rises with it, up to its limit
(R159, entry 43). -/
def homingPulse (a : Axis) (x : AxisSetup) (st : HomingStep) (s : State) : State :=
  let acc := x.acceleration
  let seeking := st = .clear || st = .seek
  if seeking && seekLimit x ≤ s.homing.travel && s.homing.stop ≠ .givenUp then s
  else
    let was := s.command a
    let s := s.onAxis a fun c =>
      if s.homing.stop ≠ .none then coast acc c
      else
        match st with
        | .clear | .seek => c.stepped (seekSide x st) (min (x.homeSpeed * x.homeSpeed) (risen acc 1 c.speedSq))
        | .settle => coast acc c
        | .ret => stepToward acc x.homeSpeed ((edgeBeyond x c.command).getD c.command) c
    if seeking then
      s.onHoming fun h => { h with travel := max h.travel (min (seekLimit x) (h.travel + (s.command a - was).natAbs)) }
    else s

/-- One step of Z in a cycle (R89, R90). -/
def zPulse (m : MachineSetup) (s : State) : State :=
  let x := m.axes.z
  s.onAxis .z fun c =>
    match s.zmotion with
    | .rest => c
    | .moving t _ => stepToward x.acceleration x.maxSpeed t c
    | .probing t => stepToward x.acceleration m.probeSpeed t c
    | .stopMove t => if c.command = t then c else coast x.acceleration c
    | .contactStop | .stopProbe => coast x.acceleration c

/-- One micrometre under the axis's motion source, and the following check of the axis (R82, R85). -/
def stepPulsed (a : Axis) (s : State) : State :=
  match s.cyc.mstate with
  | .running | .holding | .held | .resuming =>
    match a with
    | .z => followingCheck .z (withSetup zPulse s)
    | .x | .y => followingCheck a (pathPulse a s)
  | .homing =>
    match homingNow s with
    | some (b, x, st) => if a = b then followingCheck a (homingPulse a x st s) else s
    | none => s
  | .jogging | .fault => if s.jog.axis = some a then followingCheck a (jogPulse a s) else s
  | .idle | .unconfigured => s

/-- STEP_PULSE. -/
def execStepPulse (axis : Axis) (s : State) : Host.Outcome State Fault Refusal := .next (live (stepPulsed axis) s)

end Sys2Proof.Machine
end

