-- ==== Sys2Proof/Machine/Inputs.lean ====
section
/-! DEFINITION. The input lines that bear on the whole part: ESTOP and the limit inputs (R88, R148, R151, R153), the home
inputs (R161, R162), the encoders (R81, R84, R85), the key switch (R77, R126, R165, R170, R187), RESET and the supply
(R194). An assertion or a negation acts at the change of its level only. -/

namespace Sys2Proof.Machine

/-! ### Emergency stop and limits -/

/-- An escape jog ends at once, with its step output stopped (R153). -/
def endEscapeJog (s : State) : State := if escapeJog s then endJog s else s

/-- ESTOP asserts (R148, R153): it ends an escape jog and is a fault cause. -/
def estopAsserted (s : State) : State := retestCause (faultAction .estop (endEscapeJog s))

/-- ESTOP_ASSERT. -/
def execEstopAssert (s : State) : Host.Outcome State Fault Refusal :=
  let edge := !s.lines.estop
  let s := s.onLines fun l => { l with estop := true }
  .next (if edge then live estopAsserted s else s)

/-- ESTOP_NEGATE (R148, R151): no report; the fault cause is tested. -/
def execEstopNegate (s : State) : Host.Outcome State Fault Refusal :=
  let s := s.onLines fun l => { l with estop := false }
  .next (live retestCause s)

/-- A limit input takes a level. -/
def setLimit (a : Axis) (d : Side) (v : Bool) (s : State) : State :=
  s.onLines fun l => { l with limits := l.limits.set a ((l.limits.get a).set d v) }

/-- A limit input asserts (R88, R153): a fault cause, save that of the switch an escape jog moves away from; the other
switch of the jogged axis ends the escape jog. -/
def limitAsserted (a : Axis) (d : Side) (s : State) : State :=
  if escapeJog s && s.cyc.faultCause == some (.limit a d) then s
  else retestCause (faultAction (.limit a d) (if s.jog.axis = some a then endEscapeJog s else s))

/-- LIMIT_ASSERT. -/
def execLimitAssert (axis : Axis) (side : Side) (s : State) : Host.Outcome State Fault Refusal :=
  let edge := !s.lines.limit axis side
  let s := setLimit axis side true s
  .next (if edge then live (limitAsserted axis side) s else s)

/-- LIMIT_NEGATE (R151): the fault cause is tested. -/
def execLimitNegate (axis : Axis) (side : Side) (s : State) : Host.Outcome State Fault Refusal :=
  .next (live retestCause (setLimit axis side false s))

/-! ### Home inputs -/

/-- Redefinition (R86): the same offset is added to the command, the encoder and the latch. -/
def Channel.redefine (offset : Int) (c : Channel) : Channel :=
  { c with command := c.command + offset, encoder := c.encoder + offset, latch := c.latch.map (· + offset) }

/-- The HOME edge in SEEK (R162): the latch captures, the axis is redefined and SETTLE begins. -/
def homeEdge (a : Axis) (s : State) : State :=
  match homingNow s with
  | some (b, x, .seek) =>
    if a = b && s.homing.stop = .none then
      (s.onAxis a fun c => { c with latch := some c.encoder }.redefine (x.homePosition - c.encoder)).onHoming fun h =>
        { h with step := some .settle }
    else s
  | _ => s

/-- A home input takes a level. -/
def setHome (a : Axis) (v : Bool) (s : State) : State := s.onLines fun l => { l with homes := l.homes.set a v }

/-- HOME_INPUT_ASSERT. -/
def execHomeInputAssert (axis : Axis) (s : State) : Host.Outcome State Fault Refusal :=
  let edge := !s.lines.homes.get axis
  let s := setHome axis true s
  .next (if edge then live (homeEdge axis) s else s)

/-- HOME negates in CLEAR: the axis decelerates to rest (R161). -/
def homeCleared (a : Axis) (s : State) : State :=
  match homingNow s with
  | some (b, _, .clear) => if a = b && s.homing.stop = .none then s.onHoming fun h => { h with stop := .clearing } else s
  | _ => s

/-- HOME_INPUT_NEGATE. -/
def execHomeInputNegate (axis : Axis) (s : State) : Host.Outcome State Fault Refusal :=
  let edge := s.lines.homes.get axis
  let s := setHome axis false s
  .next (if edge then live (homeCleared axis) s else s)

/-! ### Encoders -/

/-- The sense of an encoder is inverted (R81). -/
def encoderReversed (s : State) (a : Axis) : Bool :=
  match s.setups.setup with
  | none => false
  | some m => (m.axes.get a).encoderReverse != 0

/-- One quadrature count (R81): where the axis tracks, the command follows (R84); otherwise the deviation is checked
(R85). -/
def encoderCounted (a : Axis) (up : Bool) (s : State) : State :=
  let d : Int := if up != encoderReversed s a then 1 else -1
  let s := s.onAxis a fun c => { c with encoder := c.encoder + d }
  if tracks s a then s.onAxis a fun c => { c with command := c.encoder } else followingCheck a s

/-- ENCODER_COUNT. -/
def execEncoderCount (axis : Axis) (up : Bool) (s : State) : Host.Outcome State Fault Refusal :=
  .next (live (encoderCounted axis up) s)

/-! ### The key switch -/

/-- What a change of key mode does to the cycle, to homing and to a jog (R126, R165, R170). -/
def keyActs (k : KeyMode) (s : State) : State :=
  match k with
  | .setup => s
  | .service => holdCause .key {} s
  | .production =>
    match s.cyc.mstate with
    | .homing => giveUpHoming s
    | .jogging | .fault => stopJog s
    | .unconfigured | .idle | .running | .holding | .held | .resuming => s

/-- The decoded key mode changes (R187): the effective override is formed again, then the mode acts. -/
def keyChanged (k : KeyMode) (s : State) : State :=
  if k = s.ports.keyMode then s
  else keyActs k (formOverride (s.onPorts fun p => { p with keyMode := k }))

/-- The key lines are decoded (R187); both asserted leaves the mode unchanged. -/
def keyRead (s : State) : State :=
  match KeyMode.decode s.lines.key1 s.lines.key0 with
  | none => s
  | some k => keyChanged k s

/-- KEY_MODE_CHANGE: the key lines take new levels. -/
def execKeyModeChange (key1 key0 : Bool) (s : State) : Host.Outcome State Fault Refusal :=
  .next (live keyRead (s.onLines fun l => { l with key1 := key1, key0 := key0 }))

/-! ### Reset and power (R194) -/

/-- An ESTOP found asserted after reset is reported, then the limit inputs found asserted (R88, R148, entry 26). -/
def reportFound (s : State) : State :=
  let s := if s.lines.estop then faultAction .estop s else s
  limitOrder.foldl (fun s p => if s.lines.limit p.1 p.2 then faultAction (.limit p.1 p.2) s else s) s

/-- The reset (R193, R194): every item at its value after reset, then the reports of what is found asserted. -/
def resetNow (l : Lines) (s : State) : State := reportFound (State.resetWith l s.pending)

/-- RESET or the supply changes (R194): held in reset, started from it, or neither. -/
def resetLines (l : Lines) (s : State) : State :=
  if l.held then State.resetWith l s.pending
  else if s.lines.held then resetNow l s
  else s.onLines fun _ => l

/-- RESET_INPUT, with the level that RESET takes (entry 5). -/
def execResetInput (asserted : Bool) (s : State) : Host.Outcome State Fault Refusal :=
  .next (resetLines { s.lines with reset := asserted } s)

/-- POWER_ON: power is applied, or the supply has become good (entry 5). -/
def execPowerOn (supplyGood : Bool) (s : State) : Host.Outcome State Fault Refusal :=
  .next (resetLines { s.lines with supplyGood := supplyGood } s)

end Sys2Proof.Machine
end

