-- ==== Sys2Proof/Machine/Serve.lean ====
section
/-! DEFINITION. Serving a request (R185 to R187): the receiver after the request's last character, the requests a port
discards, the Access Check, and the reply with its header (R183). Each owning block gives an `Answer`. -/

namespace Sys2Proof.Machine

/-- What an owning block gives to a request: the reply status, the reply body after the header, the state after the
request's changes, and what follows at that instant once the reply is formed (entries 23 and 24). -/
structure Answer where
  status : Status
  items : List Item
  next : State
  after : State → State := id

/-- The request is taken. -/
def accepted (items : List Item) (s : State) : Answer := { status := .ok, items := items, next := s }

/-- The request is refused with the reply header alone; no state is changed. -/
def refused (st : Status) (s : State) : Answer := { status := st, items := [], next := s }

/-- The request is refused with an index (R190). -/
def refusedAt (st : Status) (index : Nat) (s : State) : Answer := { status := st, items := num1 index, next := s }

/-- One port. -/
def Ports.port (q : Ports) : Port → PortState
  | .cell => q.cell
  | .pendant => q.pendant

/-- Change one port. -/
def State.onPort (p : Port) (f : PortState → PortState) (s : State) : State :=
  s.onPorts fun q =>
    match p with
    | .cell => { q with cell := f q.cell }
    | .pendant => { q with pendant := f q.pendant }

/-- The receiver has taken the last byte of a frame and stands in CHECK (R184, entry 6). -/
def frameEnded (p : Port) (s : State) : State :=
  s.onPort p fun q => { q with rx := .check, bytes := [], timer := .stopped }

/-- A reply, formed from the state as it stands (R183, R185, entry 8). -/
def formReply (tag : Byte) (st : Status) (items : List Item) (s : State) : Reply :=
  { tag := tag, status := st, body := fillItems s.ports.serial 0 (headerItems s ++ items) }

/-- The reply is formed and its transmission begins: the port is SERVING (R185). -/
def sendReply (p : Port) (tag : Byte) (st : Status) (items : List Item) (s : State) : State :=
  let r := formReply tag st items s
  (s.onPort p fun q => { q with service := .serving, reply := some r }).onPorts fun q => { q with serial := q.serial + 1 }

/-- A complete request is discarded without reply: the port is SERVING (R185), or, on the Pendant Port, a RESTART waits
for its reset (R193). -/
def discards (s : State) (p : Port) : Bool :=
  (s.ports.port p).service == .serving || (p == .pendant && s.ports.restartPending)

/-- A request that passed checks 1 and 2 of R186: the Access Check, then the owning block (R185, R186). -/
def takeRequest (p : Port) (tag : Byte) (r : Request) (answer : State → Answer) (s : State) : State :=
  if r.access.admits p s.ports.keyMode s.cyc.mstate then
    let a := answer s
    a.after (sendReply p tag a.status a.items a.next)
  else sendReply p tag .notPermitted [] s

/-- A complete request reaches a port. -/
def serve (p : Port) (tag : Byte) (r : Request) (answer : State → Answer) (s : State) : State :=
  live (fun s =>
    let s := frameEnded p s
    if discards s p then s else takeRequest p tag r answer s) s

/-- The number of a record of the Contour Table, where it names one. -/
def contourOf (n : Nat) : Option (Fin Config.contours) := if h : n < Config.contours then some ⟨n, h⟩ else none

/-- The number of a slot, where it names one. -/
def slotOf (n : Nat) : Option (Fin Config.sets) := if h : n < Config.sets then some ⟨n, h⟩ else none

/-- The index of the first test that fails, counted from the index given. -/
def firstFailure : Nat → List Bool → Option Nat
  | _, [] => none
  | i, ok :: rest => if ok then firstFailure (i + 1) rest else some i

end Sys2Proof.Machine
end

