-- ==== Sys2Proof/Machine/Program.lean ====
section
/-! DEFINITION. The Program Store's requests (01_contours_and_the_run_list.md, 02_the_segment_store.md): DECLARE (R3 to R5),
APPEND (R27 to R32), SEAL (R6 to R8), CLEAR_CONTOUR (R14, R15), CLEAR_PROGRAM (R16), GET_CONTOUR (R17). -/

namespace Sys2Proof.Machine

/-! ### DECLARE -/

/-- A set conflicts with the Machine Setup (R4). -/
def setConflicts (m : MachineSetup) (f : ProcessSet) : Bool :=
  m.pumpMax < f.pCut || m.backupReach < f.backup
    || m.axes.z.softMax < m.nominalSurface + f.hPierce || m.axes.z.softMax < m.nominalSurface + f.hCut

/-- The record that DECLARE opens (R5). -/
def Contour.declared (slot : Fin Config.sets) (quality : Nat) (method : PierceMethod) (mode : SurfaceMode) : Contour :=
  { status := .loading, slot := slot, quality := quality, method := method, surfaceMode := mode, stored := 0, jets := 0
    plannedLength := none, plannedTime := none, sealOrder := none, completed := 0, lengthDone := 0
    pierceComplete := false, holds := 0, surfaceZ := none, abandonReason := none }

/-- The range tests of DECLARE, in index order (R3). -/
def declareRanges (contour slot quality method mode : Nat) : List Bool :=
  [contour < Config.contours, slot < Config.sets, 1 ≤ quality && quality ≤ 5, (PierceMethod.ofCode method).isSome,
   (SurfaceMode.ofCode mode).isSome]

/-- DECLARE with its fields in range: conditions 3 to 6 of R3. Without a Machine Setup, in FAULT entered from
UNCONFIGURED, condition 6 refuses every APPROVED set: the model's choice (entry 41). -/
def declareChecked (c : Fin Config.contours) (n : Fin Config.sets) (quality : Nat) (method : PierceMethod)
    (mode : SurfaceMode) (s : State) : Answer :=
  if s.loading.isSome then refused .wrongState s
  else if (s.contour? c).isSome then refused .inUse s
  else
    match s.setups.sets[n].content, s.setups.setup with
    | .approved f, some m =>
      if setConflicts m f then refused .setConflict s
      else accepted [] (s.setContour c (some (Contour.declared n quality method mode)))
    | .approved _, none => refused .setConflict s
    | .empty, _ | .proposed _, _ => refused .notApproved s

/-- DECLARE (R3 to R5). -/
def answerDeclare (contour slot quality method mode : Nat) (s : State) : Answer :=
  if s.cyc.mstate = .unconfigured then refused .wrongState s
  else
    match firstFailure 1 (declareRanges contour slot quality method mode), contourOf contour, slotOf slot,
      PierceMethod.ofCode method, SurfaceMode.ofCode mode with
    | none, some c, some n, some pm, some sm => declareChecked c n quality pm sm s
    | i, _, _, _, _ => refusedAt .range (i.getD 0) s

/-- DECLARE. -/
def execDeclare (port : Port) (tag : Byte) (contour slot quality pierceMethod surfaceMode : Nat) (s : State) :
    Host.Outcome State Fault Refusal :=
  .next (serve port tag (.declare contour slot quality pierceMethod surfaceMode)
    (answerDeclare contour slot quality pierceMethod surfaceMode) s)

/-! ### APPEND -/

/-- The class order (R29): the classes permitted after the previous kept segment's. -/
def permits : Option SegClass → SegClass → Bool
  | none, c => c == .traverse
  | some .traverse, _ => true
  | some .leadin, c => c != .traverse
  | some .cut, c => c == .cut || c == .tab || c == .leadout
  | some .tab, c => c == .cut || c == .leadout
  | some .leadout, c => c == .leadout

/-- The entry is given as an ARC. -/
def givenArc (e : Entry) : Bool :=
  match e.shape with
  | .line => false
  | .arc _ _ => true

/-- A computed entry that is discarded: a LINE whose end point equals its start point (R30). -/
def Computed.isZero (g : Computed) : Bool :=
  match g.shape with
  | .line => g.start == some g.finish
  | .arc _ _ _ _ => false

/-- The entry checks of R28, from the class and end point of the previous kept segment and the index of the next entry:
the kept entries in order and the count discarded, or the status and index of the first entry that fails. -/
def validate (m : MachineSetup) :
    Option (SegClass × Point) → Nat → List Entry → Except (Status × Nat) (List (SegClass × Computed) × Nat)
  | _, _, [] => .ok ([], 0)
  | prev, i, e :: es =>
    match SegClass.ofCode e.classCode with
    | none => .error (.range, i)
    | some cls =>
      if !permits (prev.map (·.1)) cls || (cls == .tab && givenArc e) then .error (.order, i)
      else
        match computeEntry m cls e (prev.map (·.2)) with
        | .error st => .error (st, i)
        | .ok g =>
          if g.isZero then
            match validate m prev (i + 1) es with
            | .error x => .error x
            | .ok r => .ok (r.1, r.2 + 1)
          else
            match validate m (some (cls, g.finish)) (i + 1) es with
            | .error x => .error x
            | .ok r => .ok ((cls, g) :: r.1, r.2)

/-- The segments that APPEND stores, with consecutive sequence numbers (R20, R32). -/
def newSegments (c : Fin Config.contours) : Nat → List (SegClass × Computed) → List Segment
  | _, [] => []
  | seq, (cls, g) :: rest =>
    { seq := seq, contour := c, cls := cls, shape := g.shape, start := g.start, finish := g.finish, length := g.length
      tangents := g.tangents, plan := none, state := .loaded } :: newSegments c (seq + 1) rest

/-- The kept entries are stored (R32). -/
def storeSegments (c : Fin Config.contours) (kept : List (SegClass × Computed)) (s : State) : State :=
  let new := newSegments c s.prog.nextSeq kept
  let s := s.modContour c fun r =>
    { r with stored := r.stored + kept.length, jets := r.jets + (new.filter fun g => g.cls.isJet).length }
  s.onProg fun p => { p with segments := p.segments ++ new, nextSeq := p.nextSeq + kept.length }

/-- The capacity checks of R31, then the storing. The counts of the reply are those of the segments stored and discarded;
the free slot count takes 4 bytes (entry 46). -/
def appendKept (c : Fin Config.contours) (r : Contour) (kept : List (SegClass × Computed)) (discarded : Nat)
    (s : State) : Answer :=
  let n := kept.length
  if Config.maxStored < r.stored + n then refused .contourTooLong s
  else if s.freeSlots < n || Config.maxSequence < s.prog.nextSeq + n - 1 then
    { status := .storeFull, items := num4 s.freeSlots, next := s }
  else
    let first := if n = 0 then none else some s.prog.nextSeq
    let t := storeSegments c kept s
    accepted (optional 4 num4 first ++ num1 n ++ num1 discarded ++ num4 t.freeSlots) t

/-- APPEND (R27 to R32). -/
def answerAppend (contour : Nat) (entries : List Entry) (s : State) : Answer :=
  match contourOf contour with
  | none => refusedAt .range 0 s
  | some c =>
    match s.contour? c, s.setups.setup with
    | some r, some m =>
      if r.status ≠ .loading then refused .wrongState s
      else
        match validate m ((s.segmentsOf c).getLast?.map fun g => (g.cls, g.finish)) 1 entries with
        | .error (st, i) => refusedAt st i s
        | .ok (kept, discarded) => appendKept c r kept discarded s
    | _, _ => refused .wrongState s

/-- An APPEND body of no entry or of more than 8 is MALFORMED (R189); a row carries its entries already read. -/
def appendFits (entries : List Entry) : Bool := 1 ≤ entries.length && entries.length ≤ 8

/-- APPEND, or its refusal with MALFORMED before the Access Check (R186). -/
def serveAppend (port : Port) (tag : Byte) (contour : Nat) (entries : List Entry) (s : State) : State :=
  if appendFits entries then serve port tag (.append contour entries) (answerAppend contour entries) s
  else live (fun s =>
    let s := frameEnded port s
    if discards s port then s else sendReply port tag .malformed [] s) s

/-- APPEND. -/
def execAppend (port : Port) (tag : Byte) (contour : Nat) (entries : List Entry) (s : State) :
    Host.Outcome State Fault Refusal :=
  .next (serveAppend port tag contour entries s)

/-! ### SEAL -/

/-- The first jet segment passes condition 6 of R6: a LEADIN at least as long as the creep distance (R67). -/
def creepFits (f : ProcessSet) (first : Option Segment) : Bool :=
  match first with
  | none => false
  | some g => g.cls == .leadin && creepDistance f ≤ g.len

/-- Conditions 4 to 6 of R6 on a LOADING contour's segments: the refusing status, if any. -/
def sealRefusal (f : ProcessSet) (method : PierceMethod) (segs : List Segment) : Option Status :=
  let jets := segs.filter fun g => g.cls.isJet
  if !(segs.any fun g => g.cls == .cut) then some .noCut
  else if (jets.head?.map (·.cls)) == some .tab || (jets.getLast?.map (·.cls)) == some .tab then some .order
  else if method == .creep && !creepFits f jets.head? then some .creepShort
  else none

/-- The planned fields of a segment among the numbered plans of a run. -/
def planOf (plans : List (Nat × Plan)) (g : Segment) : Option Plan := (plans.find? fun p => p.1 == g.seq).map (·.2)

/-- A SEAL that passes is taken whole (R7, R51, R66). -/
def sealContour (c : Fin Config.contours) (r : Contour) (f : ProcessSet) (m : MachineSetup) (s : State) : State :=
  let run := (s.segmentsOf c).filter fun g => g.cls.isJet
  let plans := planRun f m r.quality run
  let numbered := (run.map (·.seq)).zip plans
  let order := s.prog.sealCounter
  let s := s.onProg fun p =>
    { p with
      segments := p.segments.map fun g =>
        if g.contour == c then { g with plan := planOf numbered g, state := .planned } else g
      runList := p.runList ++ [c]
      sealCounter := (p.sealCounter + 1) % 65536 }
  s.modContour c fun r =>
    { r with status := .sealed, plannedLength := some (run.map (·.len)).sum
             plannedTime := some (plans.map (·.time)).sum, sealOrder := some order }

/-- The cycle waits for the contour being sealed (R8). -/
def inWait (s : State) : Bool := s.cyc.mstate = .running && s.cyc.phase = some .wait

/-- The reply to a SEAL, and what the SEAL does to a cycle in RUNNING WAIT (R8): the contour is taken, the reply is formed
with the state RUNNING and the contour ACTIVE (R18), and its approach follows (entry 23). -/
def sealAnswer (items : List Item) (s : State) : Answer :=
  if inWait s then { accepted items (continuationWith id s) with after := approachTaken } else accepted items s

/-- SEAL (R6 to R8). -/
def answerSeal (contour : Nat) (s : State) : Answer :=
  match contourOf contour with
  | none => refusedAt .range 0 s
  | some c =>
    match s.contour? c with
    | none => refused .noSuch s
    | some r =>
      if r.status ≠ .loading then refused .wrongState s
      else
        match s.setFields r.slot, s.setups.setup with
        | some f, some m =>
          match sealRefusal f r.method (s.segmentsOf c) with
          | some .order => refusedAt .order 0 s
          | some st => refused st s
          | none =>
            let t := sealContour c r f m s
            let num8of : Option Nat → List Item := fun v => num8 (v.getD 0)
            sealAnswer (num8of ((t.contour? c).bind (·.plannedLength)) ++ num8of ((t.contour? c).bind (·.plannedTime))
              ++ num4 s.prog.sealCounter) t
        | _, _ => refused .wrongState s

/-- SEAL. -/
def execSeal (port : Port) (tag : Byte) (contour : Nat) (s : State) : Host.Outcome State Fault Refusal :=
  .next (serve port tag (.seal contour) (answerSeal contour) s)

/-! ### Clearing -/

/-- A record becomes FREE; its Run List entry and its segments go (R14). -/
def freeContour (c : Fin Config.contours) (s : State) : State :=
  ((s.dropSegments fun g => g.contour == c).onProg fun p => { p with runList := p.runList.filter (· != c) }).setContour c
    none

/-- Clearing the LOADING contour in phase WAIT with the Run List empty ends the cycle (R15). -/
def clearedInWait (was : ContourStatus) (s : State) : State :=
  if was = .loading && s.cyc.phase = some .wait && s.prog.runList.isEmpty then endCycle s else s

/-- CLEAR_CONTOUR (R14, R15). -/
def answerClearContour (contour : Nat) (s : State) : Answer :=
  match contourOf contour with
  | none => refusedAt .range 0 s
  | some c =>
    match s.contour? c with
    | none => refused .noSuch s
    | some r =>
      if r.status = .active then refused .wrongState s
      else
        let t := freeContour c s
        accepted (num4 (t.freeSlots - s.freeSlots) ++ num4 t.freeSlots) (clearedInWait r.status t)

/-- CLEAR_CONTOUR. -/
def execClearContour (port : Port) (tag : Byte) (contour : Nat) (s : State) : Host.Outcome State Fault Refusal :=
  .next (serve port tag (.clearContour contour) (answerClearContour contour) s)

/-- The number of records that are not FREE (R16). -/
def usedRecords (s : State) : Nat := ((List.finRange Config.contours).filter fun c => (s.contour? c).isSome).length

/-- CLEAR_PROGRAM (R16). -/
def answerClearProgram (s : State) : Answer :=
  if s.cyc.mstate ≠ .idle then refused .wrongState s
  else
    accepted (num4 (usedRecords s))
      (s.onProg fun p => { p with contours := Vector.replicate _ none, runList := [], segments := [] })

/-- CLEAR_PROGRAM. -/
def execClearProgram (port : Port) (tag : Byte) (s : State) : Host.Outcome State Fault Refusal :=
  .next (serve port tag .clearProgram answerClearProgram s)

/-! ### GET_CONTOUR -/

/-- The place of a contour in the Run List, counted from 1 at the head (R17). -/
def placeOf (s : State) (c : Fin Config.contours) : Option Nat :=
  if c ∈ s.prog.runList then some (s.prog.runList.idxOf c + 1) else none

/-- The fields of GET_CONTOUR (R1, R17, entry 9): the status, then every other field with its presence byte. -/
def contourItems (s : State) (c : Fin Config.contours) : List Item :=
  let r := s.contour? c
  let segs := s.segmentsOf c
  num1 ((r.map (·.status.number)).getD 0)
    ++ optional 1 num1 (r.map (·.slot.val)) ++ optional 1 num1 (r.map (·.quality))
    ++ optional 1 num1 (r.map (·.method.number)) ++ optional 1 num1 (r.map (·.surfaceMode.number))
    ++ optional 4 num4 (r.map (·.stored)) ++ optional 4 num4 (r.map (·.jets))
    ++ optional 8 num8 (r.bind (·.plannedLength)) ++ optional 8 num8 (r.bind (·.plannedTime))
    ++ optional 4 num4 (r.bind (·.sealOrder)) ++ optional 4 num4 (r.map (·.completed))
    ++ optional 8 num8 (r.map (·.lengthDone)) ++ optional 1 flag (r.map (·.pierceComplete))
    ++ optional 4 num4 (r.map (·.holds)) ++ optional 4 int4 (r.bind (·.surfaceZ))
    ++ optional 1 num1 ((r.bind (·.abandonReason)).map (·.number))
    ++ optional 4 num4 (placeOf s c) ++ optional 4 num4 (r.map fun _ => segs.length)
    ++ optional 4 num4 (segs.head?.map (·.seq))

/-- GET_CONTOUR (R17). -/
def answerGetContour (contour : Nat) (s : State) : Answer :=
  match contourOf contour with
  | none => refusedAt .range 0 s
  | some c => accepted (contourItems s c) s

/-- GET_CONTOUR. -/
def execGetContour (port : Port) (tag : Byte) (contour : Nat) (s : State) : Host.Outcome State Fault Refusal :=
  .next (serve port tag (.getContour contour) (answerGetContour contour) s)

end Sys2Proof.Machine
end

