-- ==== Sys2Proof/Machine/Setups.lean ====
section
/-! DEFINITION. The Setup Store's requests (11_process_sets_approval_and_machine_setup.md): PROPOSE_SET (R173, R174),
APPROVE_SET (R175), DECLINE_SET (R176), GET_SET (R177), WRITE_SETUP (R178 to R181); and SET_ACCUMULATORS (R110). -/

namespace Sys2Proof.Machine

/-! ### Process sets -/

/-- `lo ≤ n ≤ hi`. -/
def inRange (lo n hi : Nat) : Bool := lo ≤ n && n ≤ hi

/-- The range tests of the 30 fields, in index order (R173). -/
def setRanges (f : ProcessSet) : List Bool :=
  [inRange 0 f.material 255, inRange 1000 f.thickness 300000, inRange 50 f.vSep 20000,
   inRange 64 f.qf1 1024, inRange 64 f.qf2 1024, inRange 64 f.qf3 1024, inRange 64 f.qf4 1024, inRange 64 f.qf5 1024,
   inRange 1000 f.rFull 200000, inRange 64 f.fa 1024, inRange 128 f.fl 1024,
   inRange 0 f.cf0 1024, inRange 0 f.cf1 1024, inRange 0 f.cf2 1024, inRange 0 f.cf3 1024, inRange 0 f.cf4 1024,
   inRange 0 f.cf5 1024,
   inRange 50 f.vTab 50000, inRange 10 f.vCreep 5000, inRange 64 f.fr 1024,
   inRange 500 f.pCut 4200, inRange 100 f.pPierce f.pCut, inRange 100 f.pTab f.pCut,
   inRange 0 f.tLow 30000, inRange 0 f.tRamp 30000, inRange 0 f.tDwell 30000, inRange 0 f.tRejoin 10000,
   inRange 500 f.hPierce 50000, inRange 500 f.hCut 50000, inRange 0 f.backup 50000]

/-- The ordering of QF1 to QF5: the index of the later field of the first pair out of order (R173). -/
def qualityOrder (f : ProcessSet) : Option Nat :=
  firstFailure 5 [f.qf2 ≤ f.qf1, f.qf3 ≤ f.qf2, f.qf4 ≤ f.qf3, f.qf5 ≤ f.qf4]

/-- The ordering of CF0 to CF5 (R173). -/
def cornerOrder (f : ProcessSet) : Option Nat :=
  firstFailure 13 [f.cf1 ≤ f.cf0, f.cf2 ≤ f.cf1, f.cf3 ≤ f.cf2, f.cf4 ≤ f.cf3, f.cf5 ≤ f.cf4]

/-- Replace a slot of the Process Set Table. -/
def State.setSlot (n : Fin Config.sets) (t : SetSlot) (s : State) : State :=
  s.onSetups fun u => { u with sets := u.sets.set n t }

/-- The number of the next proposal to a slot: one more, from 255 to 0 (R172). -/
def nextProposal (k : Nat) : Nat := (k + 1) % 256

/-- PROPOSE_SET (R173, R174). -/
def answerProposeSet (slot : Nat) (f : ProcessSet) (s : State) : Answer :=
  match slotOf slot with
  | none => refusedAt .range 0 s
  | some n =>
    match firstFailure 1 (setRanges f), qualityOrder f, cornerOrder f with
    | some i, _, _ => refusedAt .range i s
    | none, some i, _ => refusedAt .inconsistent i s
    | none, none, some i => refusedAt .inconsistent i s
    | none, none, none =>
      if slotInUse s n then refused .inUse s
      else
        let k := nextProposal s.setups.sets[n].number
        accepted (num1 slot ++ num1 k) (s.setSlot n { number := k, content := .proposed f })

/-- PROPOSE_SET. -/
def execProposeSet (port : Port) (tag : Byte) (slot : Nat) (fields : ProcessSet) (s : State) :
    Host.Outcome State Fault Refusal :=
  .next (serve port tag (.proposeSet slot fields) (answerProposeSet slot fields) s)

/-- The checks of R175 that APPROVE_SET and DECLINE_SET share, then what is done with the PROPOSED values. -/
def judgeProposal (slot proposal : Nat) (items : List Item) (take : ProcessSet → SetContent) (s : State) : Answer :=
  match slotOf slot with
  | none => refusedAt .range 0 s
  | some n =>
    let t := s.setups.sets[n]
    match t.content with
    | .empty => refused .noSuch s
    | .approved _ => refused .wrongState s
    | .proposed f =>
      if proposal ≠ t.number then refused .superseded s
      else accepted items (s.setSlot n { t with content := take f })

/-- APPROVE_SET (R175). -/
def answerApproveSet (slot proposal : Nat) (s : State) : Answer :=
  judgeProposal slot proposal (num1 slot ++ num1 proposal) .approved s

/-- APPROVE_SET. -/
def execApproveSet (port : Port) (tag : Byte) (slot proposal : Nat) (s : State) : Host.Outcome State Fault Refusal :=
  .next (serve port tag (.approveSet slot proposal) (answerApproveSet slot proposal) s)

/-- DECLINE_SET (R176). -/
def answerDeclineSet (slot proposal : Nat) (s : State) : Answer :=
  judgeProposal slot proposal [] (fun _ => .empty) s

/-- DECLINE_SET. -/
def execDeclineSet (port : Port) (tag : Byte) (slot proposal : Nat) (s : State) : Host.Outcome State Fault Refusal :=
  .next (serve port tag (.declineSet slot proposal) (answerDeclineSet slot proposal) s)

/-- The 30 field values in index order (R173): the material code one byte, the others four (entry 10). -/
def setItems (f : ProcessSet) : List Item :=
  num1 f.material ++
    ([f.thickness, f.vSep, f.qf1, f.qf2, f.qf3, f.qf4, f.qf5, f.rFull, f.fa, f.fl, f.cf0, f.cf1, f.cf2, f.cf3, f.cf4,
      f.cf5, f.vTab, f.vCreep, f.fr, f.pCut, f.pPierce, f.pTab, f.tLow, f.tRamp, f.tDwell, f.tRejoin, f.hPierce,
      f.hCut, f.backup].flatMap num4)

/-- GET_SET (R177, entry 10). -/
def answerGetSet (slot : Nat) (s : State) : Answer :=
  match slotOf slot with
  | none => refusedAt .range 0 s
  | some n =>
    let t := s.setups.sets[n]
    accepted (num1 t.content.number ++ num1 t.number ++ optional 117 setItems t.fields ++ flag (slotInUse s n)) s

/-- GET_SET. -/
def execGetSet (port : Port) (tag : Byte) (slot : Nat) (s : State) : Host.Outcome State Fault Refusal :=
  .next (serve port tag (.getSet slot) (answerGetSet slot) s)

/-! ### The Machine Setup -/

/-- The range tests of one axis's fields, in index order (R178): `reach` bounds its positions, `top` its maximum
speed. -/
def axisRanges (reach : Int) (top : Nat) (x : AxisSetup) : List Bool :=
  [within (-reach) x.softMin reach, within (-reach) x.softMax reach, inRange 1000 x.maxSpeed top,
   inRange 10000 x.acceleration 5000000, inRange 10 x.followingLimit 20000, inRange 0 x.encoderReverse 1,
   inRange 0 x.homeDirection 1, inRange 100 x.homeSpeed 50000, within (-reach) x.homePosition reach,
   inRange 10 x.jogSlow 5000, inRange 100 x.jogFast 100000]

/-- The range tests of the 54 fields, in index order (R178). -/
def setupRanges (m : MachineSetup) : List Bool :=
  axisRanges 8000000 500000 m.axes.x ++ axisRanges 8000000 500000 m.axes.y ++ axisRanges 500000 100000 m.axes.z ++
  [inRange 10000 m.accel 2000000, inRange 10000 m.accelHold 5000000, inRange 100 m.vPathMax 100000,
   inRange 1000 m.vRapid 500000, inRange 10000 m.accelRapid 5000000, within (-500000) m.zClearance 500000,
   inRange 100 m.probeSpeed 20000, inRange 1000 m.probeTravel 300000, within (-500000) m.nominalSurface 500000,
   inRange 1 m.arcTolerance 100, inRange 0 m.backupReach 50000, inRange 100 m.vBackup 20000,
   inRange 1000 m.pumpMax 4200, inRange 10 m.pressureBand 500, inRange 500 m.settleLimit 20000,
   inRange 50 m.dipAllowance 2000, inRange 0 m.abrasiveDelay 5000, inRange 0 m.abrasiveGrace 5000,
   inRange 100 m.jogKeep 1000, inRange 0 m.jetTimeLimit 4000000000, inRange 0 m.pierceCountLimit 1000000]

/-- The home margin holds (R179, test 3). -/
def homeMargin (x : AxisSetup) : Bool :=
  let d : Int := ceilDiv (x.homeSpeed * x.homeSpeed) (2 * x.acceleration)
  if x.homeDirection = 0 then d ≤ x.homePosition - x.softMin else d ≤ x.softMax - x.homePosition

/-- One axis test for X, Y and Z, with the index of its field on failure (R179). -/
def eachAxis (m : MachineSetup) (row : Nat) (test : AxisSetup → Bool) : List (Bool × Nat) :=
  [(test m.axes.x, row), (test m.axes.y, row + 11), (test m.axes.z, row + 22)]

/-- A speed within the X and the Y maximum speeds (R179). -/
def withinXY (m : MachineSetup) (v : Nat) : Bool := v ≤ m.axes.x.maxSpeed && v ≤ m.axes.y.maxSpeed

/-- The consistency tests in order, with the index each gives on failure (R179). -/
def setupTests (m : MachineSetup) : List (Bool × Nat) :=
  eachAxis m 2 (fun x => 10000 ≤ x.softMax - x.softMin)
    ++ eachAxis m 9 (fun x => within x.softMin x.homePosition x.softMax)
    ++ eachAxis m 9 homeMargin
    ++ eachAxis m 8 (fun x => x.homeSpeed ≤ x.maxSpeed)
    ++ eachAxis m 11 (fun x => x.jogSlow ≤ x.jogFast && x.jogFast ≤ x.maxSpeed)
    ++ [(decide (m.accel ≤ m.accelHold), 35), (withinXY m m.vPathMax, 36), (withinXY m m.vRapid, 37),
        (withinXY m m.vBackup, 45), (within m.axes.z.softMin m.zClearance m.axes.z.softMax, 39),
        (decide (m.probeSpeed ≤ m.axes.z.maxSpeed), 40), (within m.axes.z.softMin m.nominalSurface m.axes.z.softMax, 42)]

/-- The index of the first consistency test that fails (R179). -/
def setupInconsistency (m : MachineSetup) : Option Nat := ((setupTests m).find? fun t => !t.1).map (·.2)

/-- A homed axis keeps its flag at a WRITE_SETUP (R181). -/
def keepsHomed (old : Option MachineSetup) (new : MachineSetup) (a : Axis) (c : Channel) : Bool :=
  let x := new.axes.get a
  c.homed && inWindow x c.command &&
    match old with
    | none => true
    | some o =>
      let w := o.axes.get a
      w.encoderReverse == x.encoderReverse && w.homeDirection == x.homeDirection && w.homePosition == x.homePosition

/-- A WRITE_SETUP that passes is taken (R181). The wear limits are tested in the new machine state, so that a WEAR alert
records IDLE: the model's choice (entry 42). -/
def installSetup (m : MachineSetup) (s : State) : State :=
  let old := s.setups.setup
  let f := fun (a : Axis) (c : Channel) => { c with homed := keepsHomed old m a c }
  let s := s.onSetups fun u => { u with setup := some m }
  let s := s.onAxes fun p => ⟨f .x p.x, f .y p.y, f .z p.z⟩
  let s := s.onCyc fun c => { c with surface := some m.nominalSurface }
  testWear (enterState .idle none s)

/-- The three homed flags. -/
def homedItems (s : State) : List Item := flag s.axes.x.homed ++ flag s.axes.y.homed ++ flag s.axes.z.homed

/-- WRITE_SETUP (R180, R181); the following check runs with the new limits at once (R182, entry 24). -/
def answerWriteSetup (m : MachineSetup) (s : State) : Answer :=
  if s.cyc.mstate ≠ .unconfigured && s.cyc.mstate ≠ .idle then refused .wrongState s
  else if programHeld s then refused .wrongState s
  else
    match firstFailure 1 (setupRanges m), setupInconsistency m with
    | some i, _ => refusedAt .range i s
    | none, some i => refusedAt .inconsistent i s
    | none, none =>
      let t := installSetup m s
      { accepted (homedItems t) t with after := followingCheckAll }

/-- WRITE_SETUP. -/
def execWriteSetup (port : Port) (tag : Byte) (fields : MachineSetup) (s : State) :
    Host.Outcome State Fault Refusal :=
  .next (serve port tag (.writeSetup fields) (answerWriteSetup fields) s)

/-! ### Wear accumulators -/

/-- SET_ACCUMULATORS (R110). -/
def answerSetAccumulators (seconds pierces : Nat) (s : State) : Answer :=
  let t := testWear (s.onJet fun j => { j with jetTime := seconds * 1000, pierceCount := pierces })
  accepted (num4 (t.jet.jetTime / 1000) ++ num4 t.jet.pierceCount) t

/-- SET_ACCUMULATORS. -/
def execSetAccumulators (port : Port) (tag : Byte) (seconds pierces : Nat) (s : State) :
    Host.Outcome State Fault Refusal :=
  .next (serve port tag (.setAccumulators seconds pierces) (answerSetAccumulators seconds pierces) s)

end Sys2Proof.Machine
end

