-- ==== Sys2Proof/Machine/Operator.lean ====
section
/-! DEFINITION. The requests that command the machine: HOLD (R130), CYCLE_STOP (R123), ABORT (R124), CYCLE_START (R112),
RESUME (R137), SET_OVERRIDE (R77), RELEASE_FAULT (R154), HOME (R160), JOG and JOG_STEP (R153, R166), JOG_REFRESH (R168),
JOG_STOP (R170). -/

namespace Sys2Proof.Machine

/-! ### The cycle -/

/-- HOLD (R130, R131). -/
def answerHold (s : State) : Answer :=
  match s.cyc.mstate with
  | .running =>
    if s.cyc.abortPending then accepted [] s
    else if pierceInProgress s then accepted [] (s.onCyc fun c => { c with deferredHold := true })
    else accepted [] (takeHold .request {} s)
  | .resuming => accepted [] (if s.cyc.abortPending then s else takeHold .request {} s)
  | .holding | .held => accepted [] s
  | .idle | .unconfigured | .homing | .jogging | .fault => refused .wrongState s

/-- HOLD. -/
def execHold (port : Port) (tag : Byte) (s : State) : Host.Outcome State Fault Refusal :=
  .next (serve port tag .hold answerHold s)

/-- CYCLE_STOP (R123). -/
def answerCycleStop (s : State) : Answer :=
  if !s.cyc.mstate.inCycle then refused .wrongState s
  else if s.cyc.phase = some .wait then accepted [] (endCycle s)
  else accepted [] (s.onCyc fun c => { c with cycleStop := true })

/-- CYCLE_STOP. -/
def execCycleStop (port : Port) (tag : Byte) (s : State) : Host.Outcome State Fault Refusal :=
  .next (serve port tag .cycleStop answerCycleStop s)

/-- An ABORT outside WAIT, with a contour ACTIVE (R124): the jet closes and the motion comes to rest. -/
def abortCycle (s : State) : State :=
  if s.cyc.abortPending then s
  else settleRest (stopMotion (closeJet (s.onCyc fun c => { c with abortPending := true })))

/-- What ABORT does (R124, R165, R170). -/
def abortEffect (s : State) : State :=
  match s.cyc.mstate with
  | .running | .holding | .resuming => if s.cyc.phase = some .wait then endCycle s else abortCycle s
  | .held => if s.cyc.phase = some .wait then endCycle s else abandonByAbort s
  | .homing => giveUpHoming s
  | .jogging => stopJog s
  | .idle | .unconfigured | .fault => s

/-- ABORT (R124). -/
def answerAbort (s : State) : Answer := accepted [] (abortEffect s)

/-- ABORT. -/
def execAbort (port : Port) (tag : Byte) (s : State) : Host.Outcome State Fault Refusal :=
  .next (serve port tag .abort answerAbort s)

/-- The phase as a reply carries it (entry 12). -/
def phaseItems (s : State) : List Item := optional 1 num1 (s.cyc.phase.map (·.number))

/-- A CYCLE_START that passes (R112). The reply is formed as the continuation stands, in APPROACH or WAIT; what follows at
that instant comes after it: the COLLISION where CONTACT is asserted, or the approach, with whatever it leads to at once
(entry 23). -/
def startCycle (s : State) : Answer :=
  let t := continuationWith id (enterState .running none (s.onCyc fun c => { c with cycleStop := false }))
  { accepted (phaseItems t) t with after := if s.lines.contact then faultAction .collision else approachTaken }

/-- CYCLE_START (R112). -/
def answerCycleStart (s : State) : Answer :=
  if s.cyc.mstate ≠ .idle then refused .wrongState s
  else if !allHomed s then refused .notHomed s
  else if s.prog.runList.isEmpty && s.loading.isNone then refused .runListEmpty s
  else if !s.lines.pumprdy then refused .pumpNotReady s
  else if s.jet.wearLimit then refused .wearLimit s
  else startCycle s

/-- CYCLE_START. -/
def execCycleStart (port : Port) (tag : Byte) (s : State) : Host.Outcome State Fault Refusal :=
  .next (serve port tag .cycleStart answerCycleStart s)

/-- A hold cause whose RESUME reads PUMPRDY (R137). -/
def HoldCause.needsPump : HoldCause → Bool
  | .pump | .pressureSettle | .pressureDip => true
  | .request | .abrasive | .noSurface | .key => false

/-- RESUME (R137 to R140). The reply is formed as R138 and R139 state it, and the resumed phase then goes on
(entry 23). -/
def answerResume (s : State) : Answer :=
  match s.cyc.mstate, s.cyc.hold with
  | .held, some h =>
    if h.cause.needsPump && !s.lines.pumprdy then refused .causePresent s
    else
      let t := resumeEntered h s
      { accepted (if h.phase = .cut then [] else phaseItems t) t with after := resumeGoes h.phase }
  | _, _ => refused .wrongState s

/-- RESUME. -/
def execResume (port : Port) (tag : Byte) (s : State) : Host.Outcome State Fault Refusal :=
  .next (serve port tag .resume answerResume s)

/-! ### Override and release -/

/-- The requested override that a value gives: clamped into 10..100 (R77). -/
def clampOverride (v : Nat) : Nat := max 10 (min v 100)

/-- SET_OVERRIDE (R77, R78). -/
def answerSetOverride (value : Nat) (s : State) : Answer :=
  let t := formOverride (s.onCyc fun c => { c with reqOverride := clampOverride value })
  accepted (num1 t.cyc.reqOverride ++ num1 t.path.override) t

/-- SET_OVERRIDE. -/
def execSetOverride (port : Port) (tag : Byte) (value : Nat) (s : State) : Host.Outcome State Fault Refusal :=
  .next (serve port tag (.setOverride value) (answerSetOverride value) s)

/-- A homed axis outside its window loses its flag (R87, R154). -/
def dropOutside (s : State) : State :=
  withSetup (fun m s =>
    let f := fun (a : Axis) (c : Channel) => { c with homed := c.homed && inWindow (m.axes.get a) c.command }
    s.onAxes fun p => ⟨f .x p.x, f .y p.y, f .z p.z⟩) s

/-- A RELEASE_FAULT that passes (R154). -/
def releaseFaultNow (s : State) : State :=
  let m : MachineState := if s.setups.setup.isSome then .idle else .unconfigured
  enterState m none (dropOutside (s.onCyc fun c => { c with faultCause := none }))

/-- RELEASE_FAULT (R154). -/
def answerReleaseFault (s : State) : Answer :=
  if s.cyc.mstate ≠ .fault then refused .wrongState s
  else if escapeJog s then refused .wrongState s
  else if s.lines.estop || s.lines.anyLimit then refused .causePresent s
  else
    let t := releaseFaultNow s
    accepted (homedItems t) t

/-- RELEASE_FAULT. -/
def execReleaseFault (port : Port) (tag : Byte) (s : State) : Host.Outcome State Fault Refusal :=
  .next (serve port tag .releaseFault answerReleaseFault s)

/-! ### Homing -/

/-- Homing begins with an axis and a list of those that follow it (R160). -/
def startHoming (a : Axis) (rest : List Axis) (s : State) : State :=
  beginHoming a ((enterState .homing none s).onHoming fun h => { h with remaining := rest })

/-- HOME (R160): ALL homes Z, then X, then Y. -/
def answerHome (axis : Nat) (s : State) : Answer :=
  if s.cyc.mstate ≠ .idle then refused .wrongState s
  else
    match axisOfCode axis with
    | some a => accepted [] (startHoming a [] s)
    | none => if axis = 3 then accepted [] (startHoming .z [.x, .y] s) else refusedAt .range 0 s

/-- HOME. -/
def execHome (port : Port) (tag : Byte) (axis : Nat) (s : State) : Host.Outcome State Fault Refusal :=
  .next (serve port tag (.home axis) (answerHome axis) s)

/-! ### Jogging -/

/-- The checks of an escape jog (R153). -/
def escapeRefusal (s : State) (a : Axis) (d : Side) : Option Status :=
  match s.cyc.faultCause with
  | some (.limit b e) =>
    if a ≠ b || d = e then some .wrongState else if s.lines.estop then some .causePresent else none
  | _ => some .wrongState

/-- The checks of a jog after its codes (R153, R166). -/
def jogRefusal (s : State) (a : Axis) (d : Side) : Option Status :=
  match s.cyc.mstate with
  | .fault => escapeRefusal s a d
  | .jogging => if s.jog.axis = some a then none else some .wrongState
  | .idle => none
  | .unconfigured | .homing | .running | .holding | .held | .resuming => some .wrongState

/-- A jog that passes in IDLE sets the machine state to JOGGING (R166). -/
def enterJogging (s : State) : State := if s.cyc.mstate = .idle then enterState .jogging none s else s

/-- JOG (R153, R166 to R168). -/
def answerJog (axis direction speed : Nat) (s : State) : Answer :=
  match axisOfCode axis, sideOfCode direction, decide (speed ≤ 1) with
  | some a, some d, true =>
    match jogRefusal s a d with
    | some st => refused st s
    | none => accepted [] (startJog a d (jogSpeedOf s a (speed == 1)) (enterJogging s))
  | _, _, _ => refusedAt .range 0 s

/-- JOG. -/
def execJog (port : Port) (tag : Byte) (axis direction speed : Nat) (s : State) : Host.Outcome State Fault Refusal :=
  .next (serve port tag (.jog axis direction speed) (answerJog axis direction speed) s)

/-- A JOG_STEP distance within its values (R166). -/
def distanceFits (d : Int) : Bool := d ≠ 0 && d.natAbs ≤ 100000

/-- JOG_STEP (R153, R166, R169). -/
def answerJogStep (axis : Nat) (distance : Int) (s : State) : Answer :=
  match axisOfCode axis, distanceFits distance with
  | some a, true =>
    match jogRefusal s a (if distance < 0 then .neg else .pos) with
    | some st => refused st s
    | none => accepted (flag (stepTarget s a distance).2) (startStep a distance (enterJogging s))
  | _, _ => refusedAt .range 0 s

/-- JOG_STEP. -/
def execJogStep (port : Port) (tag : Byte) (axis : Nat) (distance : Int) (s : State) :
    Host.Outcome State Fault Refusal :=
  .next (serve port tag (.jogStep axis distance) (answerJogStep axis distance) s)

/-- JOG_REFRESH (R168). -/
def answerJogRefresh (s : State) : Answer :=
  if s.jog.kind = some .continuous && !s.jog.stopping then
    accepted [] (s.onJog fun j => { j with keep := .running (jogKeepOf s) })
  else refused .wrongState s

/-- JOG_REFRESH. -/
def execJogRefresh (port : Port) (tag : Byte) (s : State) : Host.Outcome State Fault Refusal :=
  .next (serve port tag .jogRefresh answerJogRefresh s)

/-- JOG_STOP (R170). -/
def answerJogStop (s : State) : Answer := accepted [] (stopJog s)

/-- JOG_STOP. -/
def execJogStop (port : Port) (tag : Byte) (s : State) : Host.Outcome State Fault Refusal :=
  .next (serve port tag .jogStop answerJogStop s)

end Sys2Proof.Machine
end

