-- ==== Sys2Proof/Machine/Reports.lean ====
section
/-! DEFINITION. The requests that read the part: GET_STATUS (R191), GET_AXES (R192), GET_ALERT (R158); RELEASE_ALERT (R157);
and RESTART (R193). -/

namespace Sys2Proof.Machine

/-! ### GET_STATUS and GET_AXES -/

/-- The hold record (R191): the cause and the phase, then the three points, each optional. -/
def holdItems (h : HoldRecord) : List Item :=
  num1 h.cause.number ++ num1 h.phase.number ++ optional 8 posItems h.jetClose ++ optional 8 posItems h.stop
    ++ optional 8 posItems h.rejoin

/-- The slot is PROPOSED (R172). -/
def SetContent.isProposed : SetContent → Bool
  | .proposed _ => true
  | .empty | .approved _ => false

/-- The fields of GET_STATUS after the reply header, in order (R191). -/
def statusItems (s : State) : List Item :=
  num1 s.ports.keyMode.number ++ phaseItems s ++ optional 1 num1 (s.cyc.active.map (·.val))
    ++ optional 8 posItems s.path.cursor ++ num1 s.path.dir.number
    ++ optional 1 num1 ((resumeStep s).map (·.number)) ++ num4 s.path.speed
    ++ num1 s.cyc.reqOverride ++ num1 s.path.override
    ++ num1 s.jet.state.number ++ num4 s.jet.demand ++ num4 s.lines.pfb
    ++ int4 s.axes.x.command ++ int4 s.axes.y.command ++ int4 s.axes.z.command ++ homedItems s
    ++ optional 29 holdItems s.cyc.hold ++ flag s.cyc.deferredHold ++ num1 s.prog.runList.length
    ++ optional 1 num1 (s.loading.map (·.val)) ++ num4 s.freeSlots
    ++ s.setups.sets.toList.flatMap (fun t => flag t.content.isProposed)
    ++ num4 (s.jet.jetTime / 1000) ++ num4 s.jet.pierceCount ++ flag s.cyc.cycleStop

/-- GET_STATUS (R191). -/
def answerGetStatus (s : State) : Answer := accepted (statusItems s) s

/-- GET_STATUS. -/
def execGetStatus (port : Port) (tag : Byte) (s : State) : Host.Outcome State Fault Refusal :=
  .next (serve port tag .getStatus answerGetStatus s)

/-- The group of one axis in GET_AXES (R192). -/
def axisItems (s : State) (a : Axis) : List Item :=
  let c := s.chan a
  int4 c.command ++ int4 c.encoder ++ int4 c.deviation ++ optional 4 int4 c.latch
    ++ flag (s.lines.limit a .neg) ++ flag (s.lines.limit a .pos) ++ flag (s.lines.homes.get a)

/-- GET_AXES (R192). -/
def answerGetAxes (s : State) : Answer := accepted (axisItems s .x ++ axisItems s .y ++ axisItems s .z) s

/-- GET_AXES. -/
def execGetAxes (port : Port) (tag : Byte) (s : State) : Host.Outcome State Fault Refusal :=
  .next (serve port tag .getAxes answerGetAxes s)

/-! ### The alert record -/

/-- A field of an alert's detail: it carries no meaning where the code does not name it (R155, entry 8). -/
def detailItems {α : Type} (width : Nat) (f : α → List Item) : Option α → List Item
  | none => List.replicate width none
  | some v => f v

/-- A full alert record (R155, entry 11). -/
def alertItems (r : AlertRecord) : List Item :=
  num1 r.code.number
    ++ detailItems 1 num1 (r.detail.axis.map axisNumber) ++ detailItems 1 num1 (r.detail.side.map sideNumber)
    ++ detailItems 1 num1 (r.detail.accumulator.map (·.number))
    ++ detailItems 1 num1 (r.detail.jetState.map (·.number)) ++ detailItems 4 num4 r.detail.demand
    ++ optional 1 num1 (r.contour.map (·.val)) ++ optional 8 posItems r.position ++ num1 r.mstate.number
    ++ num4 r.further ++ optional 1 num1 (r.latest.map (·.number)) ++ flag r.isStatic

/-- GET_ALERT (R158). -/
def answerGetAlert (s : State) : Answer := accepted (optional 28 alertItems s.alert) s

/-- GET_ALERT. -/
def execGetAlert (port : Port) (tag : Byte) (s : State) : Host.Outcome State Fault Refusal :=
  .next (serve port tag .getAlert answerGetAlert s)

/-- The record that a standing condition refills (R157). -/
def refilled (s : State) (r : AlertRecord) : AlertRecord :=
  { code := r.code, detail := r.detail, contour := none, position := none, mstate := s.cyc.mstate, further := 0
    latest := none, isStatic := true }

/-- What RELEASE_ALERT leaves of the record (R157). -/
def releasedAlert (s : State) : Option AlertRecord :=
  match s.alert with
  | none => none
  | some r => if standing s r then some (refilled s r) else none

/-- RELEASE_ALERT (R157). -/
def answerReleaseAlert (s : State) : Answer := accepted [] (s.setAlert (releasedAlert s))

/-- RELEASE_ALERT. -/
def execReleaseAlert (port : Port) (tag : Byte) (s : State) : Host.Outcome State Fault Refusal :=
  .next (serve port tag .releaseAlert answerReleaseAlert s)

/-! ### RESTART -/

/-- RESTART (R193): the reset is made when the reply has been sent. -/
def answerRestart (s : State) : Answer := accepted [] (s.onPorts fun q => { q with restartPending := true })

/-- RESTART. -/
def execRestart (port : Port) (tag : Byte) (s : State) : Host.Outcome State Fault Refusal :=
  .next (serve port tag .restart answerRestart s)

end Sys2Proof.Machine
end

