-- ==== Sys2Proof/Machine/Ports.lean ====
section
/-! DEFINITION. The ports (12_ports_frames_and_requests.md): the receiver (R184), a complete request and its code (R185,
R186), the end of a reply (R185) and the reset of a RESTART (R193). -/

namespace Sys2Proof.Machine

/-- The owning block of a request, with the rule that serves it (R188). -/
def answer : Request → State → Answer
  | .getStatus => answerGetStatus
  | .getAxes => answerGetAxes
  | .getContour c => answerGetContour c
  | .getSet n => answerGetSet n
  | .getAlert => answerGetAlert
  | .releaseAlert => answerReleaseAlert
  | .proposeSet n f => answerProposeSet n f
  | .declare c n q m u => answerDeclare c n q m u
  | .append c es => answerAppend c es
  | .seal c => answerSeal c
  | .clearContour c => answerClearContour c
  | .clearProgram => answerClearProgram
  | .writeSetup m => answerWriteSetup m
  | .setAccumulators t n => answerSetAccumulators t n
  | .restart => answerRestart
  | .approveSet n k => answerApproveSet n k
  | .declineSet n k => answerDeclineSet n k
  | .setOverride v => answerSetOverride v
  | .releaseFault => answerReleaseFault
  | .hold => answerHold
  | .cycleStop => answerCycleStop
  | .abort => answerAbort
  | .cycleStart => answerCycleStart
  | .resume => answerResume
  | .home a => answerHome a
  | .jog a d v => answerJog a d v
  | .jogStep a d => answerJogStep a d
  | .jogRefresh => answerJogRefresh
  | .jogStop => answerJogStop

/-- A complete request given by its code and its body (R185, R186). -/
def completeRequest (p : Port) (tag code : Byte) (body : List Byte) (s : State) : State :=
  let s := frameEnded p s
  if discards s p then s
  else
    match readRequest code body with
    | .error st => sendReply p tag st [] s
    | .ok r => takeRequest p tag r (answer r) s

/-- UNKNOWN_REQUEST (R186, entry 7). -/
def execUnknownRequest (port : Port) (tag code : Byte) (body : List Byte) (s : State) :
    Host.Outcome State Fault Refusal :=
  .next (live (completeRequest port tag code body) s)

/-! ### The receiver (R184) -/

/-- The receiver returns to HUNT with nothing of a frame. At a discard in FRAME it does so, and its frame timer stops, at
the discard itself: the model's choice (entry 6). -/
def huntAgain (p : Port) (s : State) : State :=
  s.onPort p fun q => { q with rx := .hunt, bytes := [], timer := .stopped }

/-- A byte in HUNT: the start mark begins a frame; any other is dropped. -/
def byteInHunt (p : Port) (b : Byte) (s : State) : State :=
  if b = 0xA7#8 then
    s.onPort p fun q => { q with rx := .frame, bytes := [b], timer := .running Config.frameTimer }
  else huntAgain p s

/-- The check of a whole frame (R184): its check agrees and its kind is 01h. -/
def frameGood (bytes : List Byte) : Bool :=
  let n := bytes.length
  let covered := (bytes.drop 1).take (n - 3)
  bytes.drop (n - 2) == checkBytes covered && bytes.getD 2 0 == 0x01#8

/-- The frame is whole: CHECK, and a complete request is handed on. -/
def frameWhole (p : Port) (bytes : List Byte) (s : State) : State :=
  if frameGood bytes then
    completeRequest p (bytes.getD 3 0) (bytes.getD 4 0) ((bytes.drop 5).take (byteAt bytes 1)) s
  else frameEnded p s

/-- A byte in FRAME is stored and counted (R184). -/
def byteInFrame (p : Port) (b : Byte) (s : State) : State :=
  let bytes := (s.ports.port p).bytes ++ [b]
  if bytes.length = 2 && Config.maxBody < b.toNat then huntAgain p s
  else if 2 ≤ bytes.length && bytes.length = 7 + byteAt bytes 1 then frameWhole p bytes s
  else s.onPort p fun q => { q with bytes := bytes }

/-- A character arrives (R184): one without a stop bit is dropped in HUNT and ends the frame in FRAME. A byte that finds
CHECK is taken in HUNT. -/
def characterTaken (p : Port) (b : Byte) (stopBit : Bool) (s : State) : State :=
  match (s.ports.port p).rx, stopBit with
  | .frame, true => byteInFrame p b s
  | .frame, false => huntAgain p s
  | .hunt, true | .check, true => byteInHunt p b s
  | .hunt, false | .check, false => huntAgain p s

/-- CHARACTER_RECEIVED. -/
def execCharacterReceived (port : Port) (char : Byte) (stopBit : Bool) (s : State) :
    Host.Outcome State Fault Refusal :=
  .next (live (characterTaken port char stopBit) s)

/-- FRAME_TIMER_EXPIRY (R184). -/
def frameTimedOut (p : Port) (s : State) : State := if (s.ports.port p).rx = .frame then huntAgain p s else s

/-- FRAME_TIMER_EXPIRY. -/
def execFrameTimerExpiry (port : Port) (s : State) : Host.Outcome State Fault Refusal :=
  .next (live (frameTimedOut port) s)

/-! ### The end of a reply -/

/-- The last byte of a reply has been sent (R185); on the Cell Port it makes the reset of a RESTART (R193). -/
def replyEnded (p : Port) (s : State) : State :=
  if (s.ports.port p).service = .ready then s
  else if p = .cell && s.ports.restartPending then resetNow s.lines s
  else s.onPort p fun q => { q with service := .ready, reply := none }

/-- REPLY_SENT. -/
def execReplySent (port : Port) (s : State) : Host.Outcome State Fault Refusal := .next (live (replyEnded port) s)

end Sys2Proof.Machine
end

