-- ==== Sys2Proof/Machine/Dispatch.lean ====
section
/-! DEFINITION. The meaning of every command, one arm each. -/

namespace Sys2Proof.Machine

/-- The effect of a command on everything but the queue. -/
def exec (i : Instr) (s : State) : Host.Outcome State Fault Refusal :=
  match i with
  | .getStatus port tag => Sys2Proof.Machine.execGetStatus port tag s
  | .getAxes port tag => Sys2Proof.Machine.execGetAxes port tag s
  | .getContour port tag contour => Sys2Proof.Machine.execGetContour port tag contour s
  | .getSet port tag slot => Sys2Proof.Machine.execGetSet port tag slot s
  | .getAlert port tag => Sys2Proof.Machine.execGetAlert port tag s
  | .releaseAlert port tag => Sys2Proof.Machine.execReleaseAlert port tag s
  | .proposeSet port tag slot fields => Sys2Proof.Machine.execProposeSet port tag slot fields s
  | .declare port tag contour slot quality pierceMethod surfaceMode => Sys2Proof.Machine.execDeclare port tag contour slot quality pierceMethod surfaceMode s
  | .append port tag contour entries => Sys2Proof.Machine.execAppend port tag contour entries s
  | .sealContour port tag contour => Sys2Proof.Machine.execSeal port tag contour s
  | .clearContour port tag contour => Sys2Proof.Machine.execClearContour port tag contour s
  | .clearProgram port tag => Sys2Proof.Machine.execClearProgram port tag s
  | .writeSetup port tag fields => Sys2Proof.Machine.execWriteSetup port tag fields s
  | .setAccumulators port tag seconds pierces => Sys2Proof.Machine.execSetAccumulators port tag seconds pierces s
  | .restart port tag => Sys2Proof.Machine.execRestart port tag s
  | .approveSet port tag slot proposal => Sys2Proof.Machine.execApproveSet port tag slot proposal s
  | .declineSet port tag slot proposal => Sys2Proof.Machine.execDeclineSet port tag slot proposal s
  | .setOverride port tag value => Sys2Proof.Machine.execSetOverride port tag value s
  | .releaseFault port tag => Sys2Proof.Machine.execReleaseFault port tag s
  | .hold port tag => Sys2Proof.Machine.execHold port tag s
  | .cycleStop port tag => Sys2Proof.Machine.execCycleStop port tag s
  | .abort port tag => Sys2Proof.Machine.execAbort port tag s
  | .cycleStart port tag => Sys2Proof.Machine.execCycleStart port tag s
  | .resume port tag => Sys2Proof.Machine.execResume port tag s
  | .home port tag axis => Sys2Proof.Machine.execHome port tag axis s
  | .jog port tag axis direction speed => Sys2Proof.Machine.execJog port tag axis direction speed s
  | .jogStep port tag axis distance => Sys2Proof.Machine.execJogStep port tag axis distance s
  | .jogRefresh port tag => Sys2Proof.Machine.execJogRefresh port tag s
  | .jogStop port tag => Sys2Proof.Machine.execJogStop port tag s
  | .unknownRequest port tag code body => Sys2Proof.Machine.execUnknownRequest port tag code body s
  | .frameTimerExpiry port => Sys2Proof.Machine.execFrameTimerExpiry port s
  | .replySent port => Sys2Proof.Machine.execReplySent port s
  | .resetInput asserted => Sys2Proof.Machine.execResetInput asserted s
  | .powerOn supplyGood => Sys2Proof.Machine.execPowerOn supplyGood s
  | .estopAssert => Sys2Proof.Machine.execEstopAssert s
  | .estopNegate => Sys2Proof.Machine.execEstopNegate s
  | .limitAssert axis side => Sys2Proof.Machine.execLimitAssert axis side s
  | .limitNegate axis side => Sys2Proof.Machine.execLimitNegate axis side s
  | .homeInputAssert axis => Sys2Proof.Machine.execHomeInputAssert axis s
  | .homeInputNegate axis => Sys2Proof.Machine.execHomeInputNegate axis s
  | .contactAssert => Sys2Proof.Machine.execContactAssert s
  | .contactNegate => Sys2Proof.Machine.execContactNegate s
  | .abrflowAssert => Sys2Proof.Machine.execAbrflowAssert s
  | .abrflowNegate => Sys2Proof.Machine.execAbrflowNegate s
  | .pumprdyNegate level => Sys2Proof.Machine.execPumprdyNegate level s
  | .pfbChange value => Sys2Proof.Machine.execPfbChange value s
  | .encoderCount axis up => Sys2Proof.Machine.execEncoderCount axis up s
  | .keyModeChange key1 key0 => Sys2Proof.Machine.execKeyModeChange key1 key0 s
  | .settleTimerExpiry => Sys2Proof.Machine.execSettleTimerExpiry s
  | .dipTimerExpiry => Sys2Proof.Machine.execDipTimerExpiry s
  | .tLowDwellEnd => Sys2Proof.Machine.execTLowDwellEnd s
  | .rampTick => Sys2Proof.Machine.execRampTick s
  | .rampEnd => Sys2Proof.Machine.execRampEnd s
  | .tDwellEnd => Sys2Proof.Machine.execTDwellEnd s
  | .tRejoinDwellEnd => Sys2Proof.Machine.execTRejoinDwellEnd s
  | .abrasiveDelayExpiry => Sys2Proof.Machine.execAbrasiveDelayExpiry s
  | .abrasiveGraceExpiry => Sys2Proof.Machine.execAbrasiveGraceExpiry s
  | .keepTimerExpiry => Sys2Proof.Machine.execKeepTimerExpiry s
  | .seekTravelLimit => Sys2Proof.Machine.execSeekTravelLimit s
  | .jetTimeCount => Sys2Proof.Machine.execJetTimeCount s
  | .segmentCompletion => Sys2Proof.Machine.execSegmentCompletion s
  | .segmentBoundaryPassed => Sys2Proof.Machine.execSegmentBoundaryPassed s
  | .backupTargetReached => Sys2Proof.Machine.execBackupTargetReached s
  | .jetClosePointPassed => Sys2Proof.Machine.execJetClosePointPassed s
  | .pathAtRest => Sys2Proof.Machine.execPathAtRest s
  | .zMoveComplete => Sys2Proof.Machine.execZMoveComplete s
  | .zAtRest => Sys2Proof.Machine.execZAtRest s
  | .probeEndOfTravel => Sys2Proof.Machine.execProbeEndOfTravel s
  | .homingClearAtRest => Sys2Proof.Machine.execHomingClearAtRest s
  | .homingSettleAtRest => Sys2Proof.Machine.execHomingSettleAtRest s
  | .homingReturnAtRest => Sys2Proof.Machine.execHomingReturnAtRest s
  | .homingStoppedAtRest => Sys2Proof.Machine.execHomingStoppedAtRest s
  | .jogAtRest => Sys2Proof.Machine.execJogAtRest s
  | .characterReceived port char stopBit => Sys2Proof.Machine.execCharacterReceived port char stopBit s
  | .stepPulse axis => Sys2Proof.Machine.execStepPulse axis s

end Sys2Proof.Machine
end

