-- ==== Sys2Proof/WellFormed.lean ====
section
/-! DEFINITION. Which commands can occur at all: each request field fits the bytes that carry it (R183, R188, R189),
an APPEND holds 1 to 8 entries (R189), a frame body holds at most 240 bytes (R183), and PFB is a reading of the
pump's converter. Values outside a field's RANGE are well formed: the owning block refuses them. -/

namespace Sys2Proof

/-- A number that one byte carries. -/
def fitsByte (n : Nat) : Bool := n < 256

/-- An unsigned number that four bytes carry. -/
def fitsWord (n : Nat) : Bool := n < 4294967296

/-- A signed number that four bytes carry in two's complement. -/
def fitsSigned (i : Int) : Bool := -2147483648 ≤ i && i < 2147483648

/-- The fields of one axis fit their bytes: encoder reverse and home direction one byte each, the rest four. -/
def AxisSetup.fits (a : AxisSetup) : Bool :=
  fitsSigned a.softMin && fitsSigned a.softMax && fitsWord a.maxSpeed && fitsWord a.acceleration
    && fitsWord a.followingLimit && fitsByte a.encoderReverse && fitsByte a.homeDirection
    && fitsWord a.homeSpeed && fitsSigned a.homePosition && fitsWord a.jogSlow && fitsWord a.jogFast

/-- Every field of a WRITE_SETUP fits its bytes. -/
def MachineSetup.fits (m : MachineSetup) : Bool :=
  m.axes.x.fits && m.axes.y.fits && m.axes.z.fits
    && fitsWord m.accel && fitsWord m.accelHold && fitsWord m.vPathMax && fitsWord m.vRapid && fitsWord m.accelRapid
    && fitsSigned m.zClearance && fitsWord m.probeSpeed && fitsWord m.probeTravel && fitsSigned m.nominalSurface
    && fitsWord m.arcTolerance && fitsWord m.backupReach && fitsWord m.vBackup && fitsWord m.pumpMax
    && fitsWord m.pressureBand && fitsWord m.settleLimit && fitsWord m.dipAllowance && fitsWord m.abrasiveDelay
    && fitsWord m.abrasiveGrace && fitsWord m.jogKeep && fitsWord m.jetTimeLimit && fitsWord m.pierceCountLimit

/-- The fields of a process set after the material code, in index order (R173). -/
def ProcessSet.words (f : ProcessSet) : List Nat :=
  [f.thickness, f.vSep, f.qf1, f.qf2, f.qf3, f.qf4, f.qf5, f.rFull, f.fa, f.fl, f.cf0, f.cf1, f.cf2, f.cf3, f.cf4,
    f.cf5, f.vTab, f.vCreep, f.fr, f.pCut, f.pPierce, f.pTab, f.tLow, f.tRamp, f.tDwell, f.tRejoin, f.hPierce,
    f.hCut, f.backup]

/-- Every field of a PROPOSE_SET fits its bytes: the material code one byte, the others four. -/
def ProcessSet.fits (f : ProcessSet) : Bool := fitsByte f.material && f.words.all fitsWord

/-- An entry's class code has three bits, its coordinates four bytes each (R189). -/
def Entry.fits (e : Entry) : Bool :=
  e.classCode < 8 && fitsSigned e.endX && fitsSigned e.endY
    && match e.shape with
       | .line => true
       | .arc cx cy => fitsSigned cx && fitsSigned cy

/-- A command that can occur. -/
def Instr.wf : Instr → Bool
  | .getContour _ _ c => fitsByte c
  | .getSet _ _ n => fitsByte n
  | .proposeSet _ _ n f => fitsByte n && f.fits
  | .declare _ _ c n q m u => fitsByte c && fitsByte n && fitsByte q && fitsByte m && fitsByte u
  | .append _ _ c es => fitsByte c && 1 ≤ es.length && es.length ≤ 8 && es.all Entry.fits
  | .sealContour _ _ c => fitsByte c
  | .clearContour _ _ c => fitsByte c
  | .writeSetup _ _ m => m.fits
  | .setAccumulators _ _ t n => fitsWord t && fitsWord n
  | .approveSet _ _ n k => fitsByte n && fitsByte k
  | .declineSet _ _ n k => fitsByte n && fitsByte k
  | .setOverride _ _ v => fitsByte v
  | .home _ _ a => fitsByte a
  | .jog _ _ a d v => fitsByte a && fitsByte d && fitsByte v
  | .jogStep _ _ a d => fitsByte a && fitsSigned d
  | .unknownRequest _ _ _ body => body.length ≤ Config.maxBody
  | .pfbChange v => v ≤ 4200
  | .getStatus _ _ | .getAxes _ _ | .getAlert _ _ | .releaseAlert _ _ | .clearProgram _ _ | .restart _ _
  | .releaseFault _ _ | .hold _ _ | .cycleStop _ _ | .abort _ _ | .cycleStart _ _ | .resume _ _
  | .jogRefresh _ _ | .jogStop _ _ | .frameTimerExpiry _ | .replySent _ | .resetInput _ | .powerOn _
  | .estopAssert | .estopNegate | .limitAssert _ _ | .limitNegate _ _ | .homeInputAssert _ | .homeInputNegate _
  | .contactAssert | .contactNegate | .abrflowAssert | .abrflowNegate | .pumprdyNegate _ | .encoderCount _ _
  | .keyModeChange _ _ | .settleTimerExpiry | .dipTimerExpiry | .tLowDwellEnd | .rampTick | .rampEnd | .tDwellEnd
  | .tRejoinDwellEnd | .abrasiveDelayExpiry | .abrasiveGraceExpiry | .keepTimerExpiry | .seekTravelLimit
  | .jetTimeCount | .segmentCompletion | .segmentBoundaryPassed | .backupTargetReached | .jetClosePointPassed
  | .pathAtRest | .zMoveComplete | .zAtRest | .probeEndOfTravel | .homingClearAtRest | .homingSettleAtRest
  | .homingReturnAtRest | .homingStoppedAtRest | .jogAtRest | .characterReceived _ _ _ | .stepPulse _ => true

end Sys2Proof
end

