-- ==== Sys2Proof/Machine/Encode.lean ====
section
/-! DEFINITION. The other direction of sections 12.1 and 12.4: the code byte and the body bytes that a request row's frame
carries (R188, R189), and the row that a request stands in. The part itself never encodes a request; statements
about frames are made in these terms. -/

namespace Sys2Proof.Machine

/-- The four bytes of an unsigned number, little-endian (R183). -/
def wordBytes (n : Nat) : List Byte :=
  [BitVec.ofNat 8 n, BitVec.ofNat 8 (n / 256), BitVec.ofNat 8 (n / 65536), BitVec.ofNat 8 (n / 16777216)]

/-- The four bytes of a signed number, in two's complement (R183). -/
def signedBytes (i : Int) : List Byte := wordBytes (i % 4294967296).toNat

/-- The one byte of a code, a slot, an index or a flag (R183). -/
def oneByte (n : Nat) : List Byte := [BitVec.ofNat 8 n]

/-- The fields of one axis in a WRITE_SETUP body, 38 bytes (R178, R188). -/
def axisBytes (a : AxisSetup) : List Byte :=
  signedBytes a.softMin ++ signedBytes a.softMax ++ wordBytes a.maxSpeed ++ wordBytes a.acceleration
    ++ wordBytes a.followingLimit ++ oneByte a.encoderReverse ++ oneByte a.homeDirection ++ wordBytes a.homeSpeed
    ++ signedBytes a.homePosition ++ wordBytes a.jogSlow ++ wordBytes a.jogFast

/-- A WRITE_SETUP body, 198 bytes (R178, R188). -/
def setupBytes (m : MachineSetup) : List Byte :=
  axisBytes m.axes.x ++ axisBytes m.axes.y ++ axisBytes m.axes.z ++ wordBytes m.accel ++ wordBytes m.accelHold
    ++ wordBytes m.vPathMax ++ wordBytes m.vRapid ++ wordBytes m.accelRapid ++ signedBytes m.zClearance
    ++ wordBytes m.probeSpeed ++ wordBytes m.probeTravel ++ signedBytes m.nominalSurface ++ wordBytes m.arcTolerance
    ++ wordBytes m.backupReach ++ wordBytes m.vBackup ++ wordBytes m.pumpMax ++ wordBytes m.pressureBand
    ++ wordBytes m.settleLimit ++ wordBytes m.dipAllowance ++ wordBytes m.abrasiveDelay ++ wordBytes m.abrasiveGrace
    ++ wordBytes m.jogKeep ++ wordBytes m.jetTimeLimit ++ wordBytes m.pierceCountLimit

/-- The fields of a process set in a PROPOSE_SET body: the material code one byte, the others four (R188). -/
def setBytes (f : ProcessSet) : List Byte := oneByte f.material ++ f.words.flatMap wordBytes

/-- The centre that an ARC entry carries after its end point (R189). -/
def shapeBytes : EntryShape → List Byte
  | .line => []
  | .arc cx cy => signedBytes cx ++ signedBytes cy

/-- The descriptor byte of an entry (R189). -/
def entryDescriptor (e : Entry) : Nat :=
  e.classCode + (match e.shape with | .line => 0 | .arc _ _ => 8) + (if e.cw then 16 else 0)

/-- One segment entry of an APPEND body (R189). -/
def entryBytes (e : Entry) : List Byte :=
  oneByte (entryDescriptor e) ++ signedBytes e.endX ++ signedBytes e.endY ++ shapeBytes e.shape

/-- The code of a request (R188). -/
def Request.code : Request → Byte
  | .getStatus => 0x01#8
  | .getAxes => 0x02#8
  | .getContour _ => 0x03#8
  | .getSet _ => 0x04#8
  | .getAlert => 0x05#8
  | .releaseAlert => 0x06#8
  | .proposeSet _ _ => 0x10#8
  | .declare _ _ _ _ _ => 0x11#8
  | .append _ _ => 0x12#8
  | .seal _ => 0x13#8
  | .clearContour _ => 0x14#8
  | .clearProgram => 0x15#8
  | .writeSetup _ => 0x16#8
  | .setAccumulators _ _ => 0x17#8
  | .restart => 0x18#8
  | .approveSet _ _ => 0x20#8
  | .declineSet _ _ => 0x21#8
  | .setOverride _ => 0x22#8
  | .releaseFault => 0x23#8
  | .hold => 0x30#8
  | .cycleStop => 0x31#8
  | .abort => 0x32#8
  | .cycleStart => 0x33#8
  | .resume => 0x34#8
  | .home _ => 0x40#8
  | .jog _ _ _ => 0x41#8
  | .jogStep _ _ => 0x42#8
  | .jogRefresh => 0x43#8
  | .jogStop => 0x44#8

/-- The body of a request (R188, R189). -/
def Request.body : Request → List Byte
  | .getContour c => oneByte c
  | .getSet n => oneByte n
  | .proposeSet n f => oneByte n ++ setBytes f
  | .declare c n q m u => oneByte c ++ oneByte n ++ oneByte q ++ oneByte m ++ oneByte u
  | .append c es => oneByte c ++ es.flatMap entryBytes
  | .seal c => oneByte c
  | .clearContour c => oneByte c
  | .writeSetup m => setupBytes m
  | .setAccumulators t n => wordBytes t ++ wordBytes n
  | .approveSet n k => oneByte n ++ oneByte k
  | .declineSet n k => oneByte n ++ oneByte k
  | .setOverride v => oneByte v
  | .home a => oneByte a
  | .jog a d v => oneByte a ++ oneByte d ++ oneByte v
  | .jogStep a d => oneByte a ++ signedBytes d
  | .getStatus | .getAxes | .getAlert | .releaseAlert | .clearProgram | .restart | .releaseFault | .hold | .cycleStop
  | .abort | .cycleStart | .resume | .jogRefresh | .jogStop => []

/-- The row of the opcode table that a request stands in, with its port and its tag. -/
def Request.row (p : Port) (tag : Byte) : Request → Instr
  | .getStatus => .getStatus p tag
  | .getAxes => .getAxes p tag
  | .getContour c => .getContour p tag c
  | .getSet n => .getSet p tag n
  | .getAlert => .getAlert p tag
  | .releaseAlert => .releaseAlert p tag
  | .proposeSet n f => .proposeSet p tag n f
  | .declare c n q m u => .declare p tag c n q m u
  | .append c es => .append p tag c es
  | .seal c => .sealContour p tag c
  | .clearContour c => .clearContour p tag c
  | .clearProgram => .clearProgram p tag
  | .writeSetup m => .writeSetup p tag m
  | .setAccumulators t n => .setAccumulators p tag t n
  | .restart => .restart p tag
  | .approveSet n k => .approveSet p tag n k
  | .declineSet n k => .declineSet p tag n k
  | .setOverride v => .setOverride p tag v
  | .releaseFault => .releaseFault p tag
  | .hold => .hold p tag
  | .cycleStop => .cycleStop p tag
  | .abort => .abort p tag
  | .cycleStart => .cycleStart p tag
  | .resume => .resume p tag
  | .home a => .home p tag a
  | .jog a d v => .jog p tag a d v
  | .jogStep a d => .jogStep p tag a d
  | .jogRefresh => .jogRefresh p tag
  | .jogStop => .jogStop p tag

end Sys2Proof.Machine
end

