-- ==== Sys2Proof/Safety.lean ====
section
/-! DEFINITION. What counts as a safe run, in the terms the statements use: the laws that every step keeps, the
conditions under which a port takes a request, the run of a list of commands, and what the taking of a hold (R133) and
the fault action (R149) leave. -/

namespace Sys2Proof.Machine

/-! ### Conditions on a state -/

/-- The part is not held in reset (R194). -/
abbrev Live (s : State) : Prop := s.lines.held = false

/-- A complete request on the port is served: the part is not held in reset, and the port does not discard it (R185,
R193). -/
abbrev Ready (s : State) (p : Port) : Prop := s.lines.held = false ∧ discards s p = false

/-- The Access Check admits a request as the state stands (R187). -/
abbrev Admits (s : State) (p : Port) (r : Request) : Prop :=
  r.access.admits p s.ports.keyMode s.cyc.mstate = true

/-- The port serves the request and the Access Check admits it. -/
abbrev Takes (s : State) (p : Port) (r : Request) : Prop := Ready s p ∧ Admits s p r

/-- The commands of a list, one after the other, up to the first that has no next state. -/
def runAll : List Instr → State → Host.Outcome State Fault Refusal
  | [], s => .next s
  | i :: rest, s =>
    match exec i s with
    | .next t => runAll rest t
    | .fault f => .fault f
    | .refused r => .refused r

/-! ### Laws that every step keeps -/

/-- Every command that waits can occur. -/
abbrev QueueLaw (s : State) : Prop := ∀ i ∈ s.pending, i.wf = true

/-- The Segment Store holds at most its 256 slots (R19). -/
abbrev StoreLaw (s : State) : Prop := s.prog.segments.length ≤ Config.storeSlots

/-- Sequence numbers run from 1, rise strictly in store order and lie below the next one, which is at most one above
the largest number (R20). -/
abbrev SequenceLaw (s : State) : Prop :=
  (s.prog.segments.map (·.seq)).Pairwise (· < ·) ∧ (∀ g ∈ s.prog.segments, 1 ≤ g.seq ∧ g.seq < s.prog.nextSeq)
    ∧ 1 ≤ s.prog.nextSeq ∧ s.prog.nextSeq ≤ Config.maxSequence + 1

/-- At most one contour is LOADING (R9). -/
abbrev LoadingLaw (s : State) : Prop :=
  ∀ c d, s.statusOf c = some .loading → s.statusOf d = some .loading → c = d

/-- Each phase belongs to a cycle, a contour is active in a cycle only and never in WAIT, a hold names the phase it was
taken in, an axis homes in HOMING only, and an ABORT waits in a cycle only (R111, R125, R133, R159). -/
abbrev CycleLaw (s : State) : Prop :=
  (s.cyc.phase.isSome = s.cyc.mstate.inCycle)
    ∧ (s.cyc.active ≠ none → s.cyc.phase ≠ none ∧ s.cyc.phase ≠ some .wait)
    ∧ (s.cyc.mstate = .holding ∨ s.cyc.mstate = .held ∨ s.cyc.mstate = .resuming →
        ∀ h, s.cyc.hold = some h → s.cyc.phase = some h.phase)
    ∧ (s.homing.axis ≠ none → s.cyc.mstate = .homing)
    ∧ (s.cyc.abortPending = true → s.cyc.mstate.inCycle = true)

/-- The Run List holds exactly the SEALED contours, each once, and the contour that is ACTIVE, if any, is the active
contour (R9, R10). -/
abbrev RunListLaw (s : State) : Prop :=
  s.prog.runList.Nodup ∧ (∀ c, c ∈ s.prog.runList ↔ s.statusOf c = some .sealed)
    ∧ ∀ c, s.cyc.active = some c ↔ s.statusOf c = some .active

/-- The requested override lies in 10..100 and the effective override is the one that the key mode gives (R77). -/
abbrev OverrideLaw (s : State) : Prop :=
  10 ≤ s.cyc.reqOverride ∧ s.cyc.reqOverride ≤ 100
    ∧ s.path.override = (if s.ports.keyMode = .setup then min s.cyc.reqOverride 50 else s.cyc.reqOverride)

/-- The valves are open only in RUNNING or RESUMING and in phase PIERCE or CUT (R92). -/
abbrev ValvesLaw (s : State) : Prop :=
  s.jet.state ≠ .closed →
    (s.cyc.mstate = .running ∨ s.cyc.mstate = .resuming) ∧ (s.cyc.phase = some .pierce ∨ s.cyc.phase = some .cut)

/-- The alert record's further count is at most 255 and tells whether there is a latest further code; the accumulators
stand within their ranges (R155, R91). -/
abbrev RecordLaw (s : State) : Prop :=
  (∀ r ∈ s.alert, r.further ≤ 255 ∧ (r.further = 0 ↔ r.latest = none))
    ∧ s.jet.jetTime ≤ Config.maxJetTime ∧ s.jet.pierceCount ≤ Config.maxPierceCount

/-- The jet is CLOSED with every timer of the Jet Controller stopped, the dip watch disarmed and no pierce step
(R95). -/
abbrev Jet.AtRest (j : Jet) : Prop :=
  j.state = .closed ∧ j.settle = .stopped ∧ j.dip = .stopped ∧ j.dipWatch = false ∧ j.pierceStep = none
    ∧ j.pierceTimer = .stopped ∧ j.abrasiveDelay = .stopped ∧ j.abrasiveGrace = .stopped ∧ j.abrasiveWatch = false

/-- What holds in FAULT (R149): no phase, no hold record, no contour, no cursor, nothing moves but an escape jog, and
the jet is closed with its timers stopped. -/
abbrev FaultLaw (s : State) : Prop :=
  s.cyc.mstate = .fault →
    s.cyc.phase = none ∧ s.cyc.hold = none ∧ s.cyc.active = none ∧ s.cyc.deferredHold = false
      ∧ s.cyc.abortPending = false ∧ s.cyc.suspension = false
      ∧ s.path.cursor = none ∧ s.path.speedSq = 0 ∧ s.path.motion = .rest ∧ s.zmotion = .rest
      ∧ s.homing.axis = none ∧ s.jet.AtRest

/-! ### What a closed jet, a hold and a fault leave -/

/-- The Jet Controller with the jet CLOSED at demand 0 (R93, R95); the band state is given. -/
def Jet.shut (band : Bool) (j : Jet) : Jet :=
  { j with
    state := .closed, demand := 0, bandIn := band, settle := .stopped, dip := .stopped, dipWatch := false
    pierceStep := none, pierceTimer := .stopped, abrasiveDelay := .stopped, abrasiveGrace := .stopped
    abrasiveWatch := false }

/-- A Z motion that a hold or an ABORT brings to rest (R89, R90). -/
def ZMotion.halted : ZMotion → ZMotion
  | .rest => .rest
  | .moving t _ => .stopMove t
  | .probing _ => .stopProbe
  | .contactStop => .contactStop
  | .stopMove t => .stopMove t
  | .stopProbe => .stopProbe

/-- The hold record that a hold leaves: written afresh in RUNNING, and in RESUMING with the phase and the jet-close point
of the record that is there (R133, R134, R136). -/
def writtenHold (cause : HoldCause) (s : State) : HoldRecord :=
  let stop := if atRest s then stopPoint s else none
  match if s.cyc.mstate = .resuming then s.cyc.hold else none with
  | some h => { cause := cause, phase := h.phase, jetClose := h.jetClose, stop := stop, rejoin := none, step := none }
  | none =>
    { cause := cause, phase := s.cyc.phase.getD .wait
      jetClose := if s.cyc.phase = some .cut then s.path.cursor else none
      stop := stop, rejoin := none, step := none }

/-- The alert record after a hold cause with a detail: REQUEST raises none (R129). -/
def holdAlert (cause : HoldCause) (d : AlertDetail) (s : State) : Option AlertRecord :=
  match cause.alert with
  | none => s.alert
  | some code => some (recordAlert code d ⟨s.cyc.active, s.path.cursor, s.cyc.mstate⟩ s.alert)

/-- `t` is `s` after a hold taken in RUNNING or RESUMING (R133, R136): the jet closed, the hold record written, the deferred-hold flag clear,
one more hold on the contour, HOLDING with motion coming to rest, or HELD at once where nothing moves (R134), and the
alert of the cause. Everything else is as it was. -/
abbrev HoldTaken (cause : HoldCause) (d : AlertDetail) (s t : State) : Prop :=
  t = { s with
    jet := s.jet.shut t.jet.bandIn
    cyc := { s.cyc with
      mstate := if atRest s then .held else .holding, hold := some (writtenHold cause s), deferredHold := false }
    prog := (s.modActive fun r => { r with holds := min 255 (r.holds + 1) }).prog
    path := { s.path with motion := if pathStill s then .rest else .decel }
    zmotion := s.zmotion.halted
    alert := holdAlert cause d s }

/-- The fault cause that the fault action leaves (R151). -/
def causeLeft (fc : FaultCause) (l : Lines) : FaultCause :=
  if fc.present l then fc
  else
    match l.firstLimit with
    | some p => .limit p.1 p.2
    | none => fc

/-- The Program Store without the active contour's segments, its record ABANDONED (R12, R13). -/
def programAbandoned (why : AbandonReason) (s : State) : ProgramStore :=
  match s.cyc.active with
  | none => s.prog
  | some c =>
    { s.prog with
      contours := s.prog.contours.set c
        ((s.contour? c).map fun r => { r with status := .abandoned, abandonReason := some why })
      segments := s.prog.segments.filter fun g => g.contour != c }

/-- An axis as the fault action leaves it: it tracks its encoder, and the cause clears its homed flag or does not
(R84, R87). -/
def Channel.faulted (fc : FaultCause) (a : Axis) (c : Channel) : Channel :=
  { c with command := c.encoder, speedSq := 0, homed := c.homed && !fc.clears a }

/-- `t` is `s` after the fault action (R149). Everything it does not name is as it was. -/
abbrev FaultTaken (fc : FaultCause) (s t : State) : Prop :=
  t = { s with
    jet := s.jet.shut t.jet.bandIn
    cyc := { s.cyc with
      mstate := .fault, phase := none, active := none, hold := none, deferredHold := false, abortPending := false
      suspension := false, faultCause := some (causeLeft fc s.lines) }
    prog := programAbandoned fc.reason s
    path := { s.path with cursor := none, speedSq := 0, motion := .rest }
    zmotion := .rest
    homing := .reset
    jog := .reset
    axes := ⟨s.axes.x.faulted fc .x, s.axes.y.faulted fc .y, s.axes.z.faulted fc .z⟩
    alert := some (recordAlert fc.code fc.detail ⟨s.cyc.active, s.path.cursor, s.cyc.mstate⟩ s.alert) }

end Sys2Proof.Machine
end

