-- ==== Sys2Proof/Certificates/Slice0/Obligations.lean ====
section
/-! DEFINITION. The statements about the part, for the provers. Each is a `def Obligations.<Name> : Prop`. A statement
that a command completes has the next state as its conclusion, as an equation or as a state with the fields the rules
give; a frame is written as a record update: what it does not name is unchanged. -/

open Sys2Proof Sys2Proof.Machine

/-! ### The queue, reset and power -/

/-- Entry 1: a step takes the command at the front of the queue and runs it with the queue's rest. -/
def Obligations.StepRunsTheFrontCommand : Prop :=
  ∀ (c : Instr) (rest : List Instr) (s : State),
    step { s with pending := c :: rest } = exec c { s with pending := rest }

/-- Entries 1 and 35, the model's choices: an empty queue idles, and no command, a reset among them, changes the
queue. -/
def Obligations.QueueFirstInFirstOut : Prop :=
  (∀ s : State, s.pending = [] → step s = .next s)
    ∧ ∀ (c : Instr) (s t : State), exec c s = .next t → t.pending = s.pending

/-- R194 with the rules it gathers: every item after a reset, whatever the lines and the queue. -/
def Obligations.ResetValues : Prop :=
  ∀ (l : Lines) (queue : List Instr),
    let s := State.resetWith l queue
    (s.cyc.mstate = .unconfigured ∧ s.cyc.phase = none ∧ s.cyc.active = none ∧ s.cyc.surface = none
      ∧ s.cyc.cycleStop = false ∧ s.cyc.suspension = false ∧ s.cyc.abortPending = false ∧ s.cyc.reqOverride = 100
      ∧ s.cyc.hold = none ∧ s.cyc.deferredHold = false ∧ s.cyc.faultCause = none)
    ∧ (s.homing.axis = none ∧ s.homing.step = none ∧ s.homing.remaining = [] ∧ s.homing.travel = 0
      ∧ s.jog.axis = none ∧ s.jog.kind = none ∧ s.jog.direction = none ∧ s.jog.speed = none ∧ s.jog.target = none
      ∧ s.jog.keep = .stopped ∧ s.jog.stopping = false)
    ∧ ((∀ c, s.contour? c = none) ∧ s.prog.runList = [] ∧ s.prog.sealCounter = 0 ∧ s.prog.segments = []
      ∧ s.freeSlots = 256 ∧ s.prog.nextSeq = 1)
    ∧ (s.path.cursor = none ∧ s.path.speedSq = 0 ∧ s.path.dir = .forward
      ∧ s.path.override = (if s.ports.keyMode = .setup then 50 else 100))
    ∧ (∀ a, (s.chan a).command = 0 ∧ (s.chan a).encoder = 0 ∧ (s.chan a).deviation = 0 ∧ (s.chan a).latch = none
      ∧ (s.chan a).homed = false)
    ∧ (s.jet.AtRest ∧ s.jet.demand = 0 ∧ s.jet.bandIn = false ∧ s.jet.jetTime = 0 ∧ s.jet.pierceCount = 0
      ∧ s.jet.wearJetTime = false ∧ s.jet.wearPierceCount = false)
    ∧ ((∀ n : Fin 8, s.setups.sets[n] = { number := 0, content := .empty }) ∧ s.setups.setup = none)
    ∧ s.alert = none
    ∧ (∀ p, (s.ports.port p).rx = .hunt ∧ (s.ports.port p).timer = .stopped ∧ (s.ports.port p).service = .ready)
    ∧ s.ports.keyMode = (match l.key1, l.key0 with
        | false, true => .setup
        | true, false => .service
        | _, _ => .production)

/-- The laws that every step keeps hold after a reset (R194), whatever the lines, with a queue of commands that can
occur. -/
def Obligations.LawsAtReset : Prop :=
  ∀ (l : Lines) (queue : List Instr), (∀ i ∈ queue, i.wf = true) →
    let s := State.resetWith l queue
    QueueLaw s ∧ StoreLaw s ∧ SequenceLaw s ∧ LoadingLaw s ∧ CycleLaw s ∧ RunListLaw s ∧ OverrideLaw s ∧ ValvesLaw s
      ∧ RecordLaw s ∧ FaultLaw s ∧ State.reset = State.resetWith .quiet []

/-- R194, R148, R88: RESET asserted or a supply not good puts every item at its value after reset, and while the part
is held no other command changes anything but a line; the negation starts the part from those values. The queue stays
(entry 35). An ESTOP or a limit input found asserted when the part starts is a fault cause in UNCONFIGURED and fills
the empty alert record. The level that POWER_ON carries is entry 5, the order of two reports entry 26. -/
def Obligations.ResetHoldsThePart : Prop :=
  ((∀ s : State, exec (.resetInput true) s = .next (State.resetWith { s.lines with reset := true } s.pending))
    ∧ (∀ s : State, exec (.powerOn false) s = .next (State.resetWith { s.lines with supplyGood := false } s.pending))
    ∧ (∀ (c : Instr) (s t : State), s.lines.held = true → (∀ v, c ≠ .resetInput v) → (∀ v, c ≠ .powerOn v) →
        exec c s = .next t → t = { s with lines := t.lines })
    ∧ (∀ s : State, s.lines.reset = true → s.lines.supplyGood = true → s.lines.estop = false →
        s.lines.firstLimit = none →
        exec (.resetInput false) s = .next (State.resetWith { s.lines with reset := false } s.pending))
    ∧ (∀ s : State, s.lines.supplyGood = false → s.lines.reset = false → s.lines.estop = false →
        s.lines.firstLimit = none →
        exec (.powerOn true) s = .next (State.resetWith { s.lines with supplyGood := true } s.pending)))
  ∧ ((∀ s : State, s.lines.reset = true → s.lines.supplyGood = true → s.lines.estop = true → s.lines.firstLimit = none →
    ∃ t, exec (.resetInput false) s = .next t
      ∧ FaultTaken .estop (State.resetWith { s.lines with reset := false } s.pending) t)
  ∧ ∀ (s : State) (a : Axis) (d : Side), s.lines.reset = true → s.lines.supplyGood = true → s.lines.estop = false →
      s.lines.firstLimit = some (a, d) →
      ∃ t r, exec (.resetInput false) s = .next t ∧ t.cyc.mstate = .fault ∧ t.cyc.faultCause = some (.limit a d)
        ∧ t.alert = some r ∧ r.code = .limit ∧ r.detail.axis = some a ∧ r.detail.side = some d
        ∧ r.mstate = .unconfigured ∧ r.contour = none ∧ r.isStatic = false)

/-! ### Frames and the Access Check -/

/-- R183, R184: the characters of a good request frame, taken one after the other by a receiver that is not inside a
frame, hand on exactly the request they spell; a start mark outside a frame begins one and starts the frame timer.
That the last character serves the request is entry 6. -/
def Obligations.ReceivedFrameIsServed : Prop :=
  (∀ (p : Port) (tag code : Byte) (body : List Byte) (s : State),
    Live s → (s.ports.port p).rx ≠ .frame → body.length ≤ 240 →
    runAll ((frame 0x01#8 tag code body).map fun b => .characterReceived p b true) s
      = .next (completeRequest p tag code body s))
  ∧ ∀ (p : Port) (s : State), Live s → (s.ports.port p).rx ≠ .frame →
    exec (.characterReceived p 0xA7#8 true) s
      = .next (s.onPort p fun q => { q with rx := .frame, bytes := [0xA7#8], timer := .running 20 })

/-- R184: a frame whose check differs or whose kind is not 01h, a dropped byte, a missing stop bit, a body length
above 240 and the frame timer's expiry leave nothing but the receiver changed. The receiver's state
and its timer after a discard are entry 6. -/
def Obligations.BadFramesAreDropped : Prop :=
  (∀ (p : Port) (kind tag code c0 c1 : Byte) (body : List Byte) (s : State),
    Live s → (s.ports.port p).rx ≠ .frame → body.length ≤ 240 →
    ([c0, c1] ≠ checkBytes (BitVec.ofNat 8 body.length :: kind :: tag :: code :: body) ∨ kind ≠ 0x01#8) →
    runAll ((0xA7#8 :: BitVec.ofNat 8 body.length :: kind :: tag :: code :: (body ++ [c0, c1])).map
      fun b => .characterReceived p b true) s = .next (frameEnded p s))
  ∧ (∀ (p : Port) (b : Byte) (s : State), Live s → (s.ports.port p).rx = .hunt → b ≠ 0xA7#8 →
    exec (.characterReceived p b true) s
      = .next (s.onPort p fun q => { q with rx := .hunt, bytes := [], timer := .stopped }))
  ∧ (∀ (p : Port) (b : Byte) (s : State), Live s →
    exec (.characterReceived p b false) s
      = .next (s.onPort p fun q => { q with rx := .hunt, bytes := [], timer := .stopped }))
  ∧ (∀ (p : Port) (b : Byte) (s : State), Live s → (s.ports.port p).rx = .frame →
    (s.ports.port p).bytes.length = 1 → 240 < b.toNat →
    exec (.characterReceived p b true) s
      = .next (s.onPort p fun q => { q with rx := .hunt, bytes := [], timer := .stopped }))
  ∧ ∀ (p : Port) (s : State), Live s →
    exec (.frameTimerExpiry p) s
      = .next (if (s.ports.port p).rx = .frame then
          s.onPort p fun q => { q with rx := .hunt, bytes := [], timer := .stopped } else s)

/-- R188, R189: the code and the body of every request whose fields fit their bytes are read back as that request, and
the body fits a frame. -/
def Obligations.RequestFramesRoundTrip : Prop :=
  ∀ (r : Request) (p : Port) (tag : Byte), (r.row p tag).wf = true →
    readRequest r.code r.body = .ok r ∧ r.body.length ≤ 240

/-- R185, R186: a request row does what its complete frame does, in every state. The raw frame is entry 7, the row as
a whole frame entry 6. -/
def Obligations.RowIsItsFrame : Prop :=
  ∀ (r : Request) (p : Port) (tag : Byte) (s : State), (r.row p tag).wf = true →
    exec (r.row p tag) s = exec (.unknownRequest p tag r.code r.body) s

/-- R186, checks 1 and 2: a code outside the table is answered UNKNOWN_REQUEST, a body of the wrong length MALFORMED,
each with the reply header alone and no other change. The raw frame is entry 7. -/
def Obligations.UnknownAndMalformed : Prop :=
  ∀ (p : Port) (tag code : Byte) (body : List Byte) (s : State), Ready s p →
    ((∀ r : Request, r.code ≠ code) →
      exec (.unknownRequest p tag code body) s = .next (sendReply p tag .unknownRequest [] (frameEnded p s)))
    ∧ (∀ r : Request, r.code = code → (∀ c es, r ≠ .append c es) → body.length ≠ (fixedLength code.toNat).getD 0 →
      exec (.unknownRequest p tag code body) s = .next (sendReply p tag .malformed [] (frameEnded p s)))
    ∧ (code = 0x12#8 → readEntries body = none →
      exec (.unknownRequest p tag code body) s = .next (sendReply p tag .malformed [] (frameEnded p s)))

/-- R187, R186: the table of the Access Check, and check 3: a request that it does not admit is answered NOT_PERMITTED
and changes no other state. -/
def Obligations.AccessCheck : Prop :=
  (∀ (r : Request) (p : Port) (k : KeyMode) (m : MachineState),
    r.access.admits p k m = true ↔
      match r with
      | .getStatus | .getAxes | .getContour _ | .getSet _ | .getAlert | .releaseAlert | .hold | .cycleStop
      | .abort => True
      | .proposeSet _ _ | .declare _ _ _ _ _ | .append _ _ | .seal _ | .clearContour _ | .clearProgram => p = .cell
      | .writeSetup _ | .restart => p = .cell ∧ (k = .service ∨ m = .unconfigured)
      | .setAccumulators _ _ => p = .cell ∧ k = .service
      | .approveSet _ _ | .declineSet _ _ | .setOverride _ | .releaseFault | .jogStop => p = .pendant
      | .cycleStart | .resume => p = .pendant ∧ k ≠ .service
      | .home _ | .jog _ _ _ | .jogStep _ _ | .jogRefresh => p = .pendant ∧ k ≠ .production)
  ∧ (∀ (r : Request) (p : Port) (tag : Byte) (s : State), (r.row p tag).wf = true → Ready s p → ¬ Admits s p r →
    exec (r.row p tag) s = .next (sendReply p tag .notPermitted [] (frameEnded p s)))

/-- R3, R6, R27, R112, R137, R153, R154, R173, R175, R180 and the other refusals: a request that its owning block
answers with a status other than OK changes nothing but the port's reply. -/
def Obligations.RefusedRequestChangesNothing : Prop :=
  ∀ (r : Request) (p : Port) (tag : Byte) (s : State), (r.row p tag).wf = true → Takes s p r →
    (answer r (frameEnded p s)).status ≠ .ok →
    exec (r.row p tag) s
      = .next (sendReply p tag (answer r (frameEnded p s)).status (answer r (frameEnded p s)).items (frameEnded p s))

/-- R185, R193: a complete request on a port that is SERVING, or on the Pendant Port while a RESTART waits for its
reset, is discarded without reply. -/
def Obligations.ServingPortDiscards : Prop :=
  ∀ (p : Port) (tag : Byte) (s : State), Live s →
    ((s.ports.port p).service = .serving ∨ (p = .pendant ∧ s.ports.restartPending = true)) →
    (∀ r : Request, (r.row p tag).wf = true → exec (r.row p tag) s = .next (frameEnded p s))
    ∧ ∀ (code : Byte) (body : List Byte), exec (.unknownRequest p tag code body) s = .next (frameEnded p s)

/-- R183, R185: a reply carries the request's tag, its status, the reply header first and each field byte at its place;
its check covers the bytes from the body length to the body's end; its port becomes SERVING, and nothing else changes
but the serial number that free bytes are drawn with (entry 8). -/
def Obligations.ReplyForm : Prop :=
  ∀ (p : Port) (tag : Byte) (st : Status) (items : List Item) (s : State),
    ∃ r : Reply, r.tag = tag ∧ r.status = st ∧ r.body.length = 2 + items.length
      ∧ r.body.take 2 = [BitVec.ofNat 8 s.cyc.mstate.number, if s.alert.isSome then 1#8 else 0#8]
      ∧ (∀ (k : Nat) (b : Byte), items[k]? = some (some b) → r.body[2 + k]? = some b)
      ∧ (let covered := BitVec.ofNat 8 r.body.length :: 0x02#8 :: tag :: BitVec.ofNat 8 st.number :: r.body
         r.frame = 0xA7#8 :: (covered ++ checkBytes covered))
      ∧ sendReply p tag st items s
        = (s.onPort p fun q => { q with service := .serving, reply := some r }).onPorts fun q =>
            { q with serial := q.serial + 1 }

/-- R185, R193: the end of a reply makes its port READY; RESTART is answered before anything is reset, and the end of
that reply makes the reset. -/
def Obligations.ReplyEndAndRestart : Prop :=
  (∀ (p : Port) (s : State), Live s → (s.ports.port p).service = .serving →
    ¬ (p = .cell ∧ s.ports.restartPending = true) →
    exec (.replySent p) s = .next (s.onPort p fun q => { q with service := .ready, reply := none }))
  ∧ (∀ (tag : Byte) (s : State), Takes s .cell .restart →
    exec (.restart .cell tag) s
      = .next (sendReply .cell tag .ok [] ((frameEnded .cell s).onPorts fun q => { q with restartPending := true })))
  ∧ ∀ s : State, Live s → s.ports.cell.service = .serving → s.ports.restartPending = true → s.lines.estop = false →
    s.lines.firstLimit = none → exec (.replySent .cell) s = .next (State.resetWith s.lines s.pending)

/-! ### Reading -/

/-- R191, R192: the GET_STATUS reply, field by field in its order, 104 bytes with the reply header; the GET_AXES
reply, a group for each axis with the counters, the latch and the three input levels, where each group's deviation is
its command less its encoder. The bytes of absent fields are free (entry 8). -/
def Obligations.StatusAndAxesReplies : Prop :=
  (∀ (p : Port) (tag : Byte) (s : State), Ready s p →
    let items : List Item :=
      num1 s.ports.keyMode.number ++ optional 1 num1 (s.cyc.phase.map (·.number))
        ++ optional 1 num1 (s.cyc.active.map (·.val)) ++ optional 8 posItems s.path.cursor ++ num1 s.path.dir.number
        ++ optional 1 num1 ((s.cyc.hold.bind (·.step)).map (·.number)) ++ num4 s.path.speed ++ num1 s.cyc.reqOverride
        ++ num1 s.path.override ++ num1 s.jet.state.number ++ num4 s.jet.demand ++ num4 s.lines.pfb
        ++ int4 s.axes.x.command ++ int4 s.axes.y.command ++ int4 s.axes.z.command ++ flag s.axes.x.homed
        ++ flag s.axes.y.homed ++ flag s.axes.z.homed
        ++ optional 29 (fun h => num1 h.cause.number ++ num1 h.phase.number ++ optional 8 posItems h.jetClose
            ++ optional 8 posItems h.stop ++ optional 8 posItems h.rejoin) s.cyc.hold
        ++ flag s.cyc.deferredHold ++ num1 s.prog.runList.length ++ optional 1 num1 (s.loading.map (·.val))
        ++ num4 s.freeSlots ++ s.setups.sets.toList.flatMap (fun t => flag t.content.isProposed)
        ++ num4 (s.jet.jetTime / 1000) ++ num4 s.jet.pierceCount ++ flag s.cyc.cycleStop
    items.length = 102
      ∧ exec (.getStatus p tag) s = .next (sendReply p tag .ok items (frameEnded p s)))
  ∧ (∀ (p : Port) (tag : Byte) (s : State), Ready s p →
    let group : Axis → List Item := fun a =>
      int4 (s.chan a).command ++ int4 (s.chan a).encoder ++ int4 ((s.chan a).command - (s.chan a).encoder)
        ++ optional 4 int4 (s.chan a).latch ++ flag ((s.lines.limits.get a).get .neg)
        ++ flag ((s.lines.limits.get a).get .pos) ++ flag (s.lines.homes.get a)
    (∀ a, (group a).length = 20)
      ∧ exec (.getAxes p tag) s = .next (sendReply p tag .ok (group .x ++ group .y ++ group .z) (frameEnded p s)))

/-- R17, R177 with entries 9 and 10 (the layout of the optional fields is the model's choice): GET_CONTOUR and GET_SET
read a record and a slot as they stand; a number out of range is refused with RANGE. -/
def Obligations.ContourAndSetReplies : Prop :=
  (∀ (p : Port) (tag : Byte) (c : Fin Config.contours) (s : State), Ready s p →
    let r := s.contour? c
    exec (.getContour p tag c) s = .next (sendReply p tag .ok
      (num1 ((r.map (·.status.number)).getD 0)
        ++ optional 1 num1 (r.map (·.slot.val)) ++ optional 1 num1 (r.map (·.quality))
        ++ optional 1 num1 (r.map (·.method.number)) ++ optional 1 num1 (r.map (·.surfaceMode.number))
        ++ optional 4 num4 (r.map (·.stored)) ++ optional 4 num4 (r.map (·.jets))
        ++ optional 8 num8 (r.bind (·.plannedLength)) ++ optional 8 num8 (r.bind (·.plannedTime))
        ++ optional 4 num4 (r.bind (·.sealOrder)) ++ optional 4 num4 (r.map (·.completed))
        ++ optional 8 num8 (r.map (·.lengthDone)) ++ optional 1 flag (r.map (·.pierceComplete))
        ++ optional 4 num4 (r.map (·.holds)) ++ optional 4 int4 (r.bind (·.surfaceZ))
        ++ optional 1 num1 ((r.bind (·.abandonReason)).map (·.number))
        ++ optional 4 num4 (if c ∈ s.prog.runList then some (s.prog.runList.idxOf c + 1) else none)
        ++ optional 4 num4 (r.map fun _ => (s.segmentsOf c).length)
        ++ optional 4 num4 ((s.segmentsOf c).head?.map (·.seq))) (frameEnded p s)))
  ∧ (∀ (p : Port) (tag : Byte) (n : Fin Config.sets) (s : State), Ready s p →
    exec (.getSet p tag n) s = .next (sendReply p tag .ok
      (num1 s.setups.sets[n].content.number ++ num1 s.setups.sets[n].number
        ++ optional 117 (fun f => num1 f.material ++ f.words.flatMap num4) s.setups.sets[n].fields
        ++ flag (slotInUse s n)) (frameEnded p s)))
  ∧ ∀ (p : Port) (tag : Byte) (n : Nat) (s : State), Ready s p →
    (Config.contours ≤ n →
      exec (.getContour p tag n) s = .next (sendReply p tag .range (num1 0) (frameEnded p s)))
    ∧ (Config.sets ≤ n → exec (.getSet p tag n) s = .next (sendReply p tag .range (num1 0) (frameEnded p s)))

/-- R155, R157, R158: GET_ALERT changes nothing; RELEASE_ALERT empties the record, or refills it as a static record
where the standing condition of its first code is present: PUMPRDY negated for PUMP, the named limit input asserted for
LIMIT, ESTOP asserted for ESTOP, the accumulator's limit reached for WEAR, and none for the others. The record's layout
is entry 11. -/
def Obligations.AlertReadAndRelease : Prop :=
  ∀ (p : Port) (tag : Byte) (s : State), Ready s p →
    exec (.getAlert p tag) s = .next (sendReply p tag .ok (optional 28 alertItems s.alert) (frameEnded p s))
    ∧ (s.alert = none → exec (.releaseAlert p tag) s = .next (sendReply p tag .ok [] (frameEnded p s)))
    ∧ ∀ r : AlertRecord, s.alert = some r →
      let stands : Prop := match r.code with
        | .pump => s.lines.pumprdy = false
        | .limit => ∃ a d, r.detail.axis = some a ∧ r.detail.side = some d ∧ s.lines.limit a d = true
        | .estop => s.lines.estop = true
        | .wear => (r.detail.accumulator = some .jetTime ∧ s.jet.wearJetTime = true)
            ∨ (r.detail.accumulator = some .pierceCount ∧ s.jet.wearPierceCount = true)
        | .pressureSettle | .pressureDip | .abrasive | .noSurface | .key | .following | .collision | .homeFailed => False
      (¬ stands →
        exec (.releaseAlert p tag) s = .next (sendReply p tag .ok [] { frameEnded p s with alert := none }))
      ∧ (stands →
        exec (.releaseAlert p tag) s = .next (sendReply p tag .ok [] { frameEnded p s with
          alert := some { code := r.code, detail := r.detail, contour := none, position := none
                          mstate := s.cyc.mstate, further := 0, latest := none, isStatic := true } }))

/-! ### The Setup Store -/

/-- R173 to R176: a proposal in range, in order and to a slot not in use makes the slot PROPOSED with the next number;
the first field out of range, or the first pair of quality or corner factors out of order, refuses it; APPROVE_SET and
DECLINE_SET judge the slot and the number and keep the number; a slot number above 7 is refused. -/
def Obligations.ProposalsAndApprovals : Prop :=
  (∀ (tag : Byte) (n : Fin Config.sets) (f : ProcessSet) (s : State), Ready s .cell →
    firstFailure 1 (setRanges f) = none → qualityOrder f = none → cornerOrder f = none →
    (slotInUse s n = false →
      exec (.proposeSet .cell tag n f) s = .next (sendReply .cell tag .ok
        (num1 n ++ num1 ((s.setups.sets[n].number + 1) % 256))
        { frameEnded .cell s with setups := { s.setups with
            sets := s.setups.sets.set n { number := (s.setups.sets[n].number + 1) % 256, content := .proposed f } } }))
    ∧ (slotInUse s n = true →
      exec (.proposeSet .cell tag n f) s = .next (sendReply .cell tag .inUse [] (frameEnded .cell s))))
  ∧ (∀ (tag : Byte) (n : Fin Config.sets) (i : Nat) (f : ProcessSet) (s : State), Ready s .cell →
    firstFailure 1 (setRanges f) = some i →
    exec (.proposeSet .cell tag n f) s = .next (sendReply .cell tag .range (num1 i) (frameEnded .cell s)))
  ∧ (∀ (tag : Byte) (n : Fin Config.sets) (i : Nat) (f : ProcessSet) (s : State), Ready s .cell →
    firstFailure 1 (setRanges f) = none →
    let quality := firstFailure 5 [f.qf2 ≤ f.qf1, f.qf3 ≤ f.qf2, f.qf4 ≤ f.qf3, f.qf5 ≤ f.qf4]
    let corner := firstFailure 13 [f.cf1 ≤ f.cf0, f.cf2 ≤ f.cf1, f.cf3 ≤ f.cf2, f.cf4 ≤ f.cf3, f.cf5 ≤ f.cf4]
    (quality = some i ∨ (quality = none ∧ corner = some i)) →
    exec (.proposeSet .cell tag n f) s = .next (sendReply .cell tag .inconsistent (num1 i) (frameEnded .cell s)))
  ∧ (∀ (tag : Byte) (n k : Nat) (f : ProcessSet) (s : State), 8 ≤ n →
    (Ready s .cell →
      exec (.proposeSet .cell tag n f) s = .next (sendReply .cell tag .range (num1 0) (frameEnded .cell s)))
    ∧ (Ready s .pendant →
      exec (.approveSet .pendant tag n k) s = .next (sendReply .pendant tag .range (num1 0) (frameEnded .pendant s))
      ∧ exec (.declineSet .pendant tag n k) s
        = .next (sendReply .pendant tag .range (num1 0) (frameEnded .pendant s))))
  ∧ (∀ (tag : Byte) (n : Fin Config.sets) (k : Nat) (f : ProcessSet) (s : State), Ready s .pendant →
    s.setups.sets[n].content = .proposed f → k = s.setups.sets[n].number →
    exec (.approveSet .pendant tag n k) s = .next (sendReply .pendant tag .ok (num1 n ++ num1 k)
      { frameEnded .pendant s with setups := { s.setups with
          sets := s.setups.sets.set n { number := k, content := .approved f } } })
    ∧ exec (.declineSet .pendant tag n k) s = .next (sendReply .pendant tag .ok []
      { frameEnded .pendant s with setups := { s.setups with
          sets := s.setups.sets.set n { number := k, content := .empty } } }))
  ∧ ∀ (tag : Byte) (n : Fin Config.sets) (k : Nat) (s : State), Ready s .pendant →
    let st : Status := match s.setups.sets[n].content with
      | .empty => .noSuch
      | .approved _ => .wrongState
      | .proposed _ => .superseded
    ((∀ f, s.setups.sets[n].content = .proposed f → k ≠ s.setups.sets[n].number) →
      exec (.approveSet .pendant tag n k) s = .next (sendReply .pendant tag st [] (frameEnded .pendant s))
      ∧ exec (.declineSet .pendant tag n k) s = .next (sendReply .pendant tag st [] (frameEnded .pendant s)))

/-- R180, R181, R182, R109: a WRITE_SETUP in range and consistent, with no contour held and every deviation within the
new following limit, replaces the record, gives IDLE and the nominal surface, keeps the homed flags that R181 keeps and
answers them, and tests the wear limits: one newly reached sets the cycle-stop flag and raises WEAR, jet time first
(entry 33), which records IDLE (entry 42). Nothing else changes but that the closed jet is shut. The first condition of
R180 that holds refuses it. -/
def Obligations.WriteSetupTaken : Prop :=
  (∀ (tag : Byte) (m : MachineSetup) (s : State), Takes s .cell (.writeSetup m) →
    (s.cyc.mstate = .unconfigured ∨ s.cyc.mstate = .idle) → programHeld s = false →
    firstFailure 1 (setupRanges m) = none → setupInconsistency m = none →
    (∀ a, (s.chan a).deviation.natAbs ≤ (m.axes.get a).followingLimit) →
    let wearT := m.jetTimeLimit != 0 && decide (m.jetTimeLimit ≤ s.jet.jetTime / 1000)
    let wearN := m.pierceCountLimit != 0 && decide (m.pierceCountLimit ≤ s.jet.pierceCount)
    let newT := wearT && !s.jet.wearJetTime
    let newN := wearN && !s.jet.wearPierceCount
    let x : AlertContext := ⟨s.cyc.active, s.path.cursor, .idle⟩
    let first := if newT then some (recordAlert .wear { accumulator := some .jetTime } x s.alert) else s.alert
    ∃ t, exec (.writeSetup .cell tag m) s = .next (sendReply .cell tag .ok
        (flag t.axes.x.homed ++ flag t.axes.y.homed ++ flag t.axes.z.homed) t)
      ∧ t = { frameEnded .cell s with
          setups := { s.setups with setup := some m }
          cyc := { s.cyc with
            mstate := .idle, phase := none, surface := some m.nominalSurface
            cycleStop := s.cyc.cycleStop || newT || newN }
          jet := { s.jet.shut t.jet.bandIn with wearJetTime := wearT, wearPierceCount := wearN }
          alert := if newN then some (recordAlert .wear { accumulator := some .pierceCount } x first) else first
          axes := t.axes }
      ∧ ∀ a, t.chan a = { s.chan a with homed :=
          (s.chan a).homed && (decide ((m.axes.get a).softMin ≤ (s.chan a).command)
            && decide ((s.chan a).command ≤ (m.axes.get a).softMax))
          && (match s.setups.setup with
              | none => true
              | some o => (o.axes.get a).encoderReverse == (m.axes.get a).encoderReverse
                && (o.axes.get a).homeDirection == (m.axes.get a).homeDirection
                && (o.axes.get a).homePosition == (m.axes.get a).homePosition) })
  ∧ ∀ (tag : Byte) (m : MachineSetup) (s : State), Takes s .cell (.writeSetup m) →
    let held : Prop := ∃ c r, s.contour? c = some r ∧ (r.status = .loading ∨ r.status = .sealed ∨ r.status = .active)
    let settled : Prop := (s.cyc.mstate = .unconfigured ∨ s.cyc.mstate = .idle) ∧ ¬ held
    ((s.cyc.mstate ≠ .unconfigured ∧ s.cyc.mstate ≠ .idle) ∨ held →
      exec (.writeSetup .cell tag m) s = .next (sendReply .cell tag .wrongState [] (frameEnded .cell s)))
    ∧ (∀ i, settled → firstFailure 1 (setupRanges m) = some i →
      exec (.writeSetup .cell tag m) s = .next (sendReply .cell tag .range (num1 i) (frameEnded .cell s)))
    ∧ ∀ i, settled → firstFailure 1 (setupRanges m) = none → setupInconsistency m = some i →
      exec (.writeSetup .cell tag m) s = .next (sendReply .cell tag .inconsistent (num1 i) (frameEnded .cell s))

/-- R110, R109: SET_ACCUMULATORS loads both accumulators, answers them and tests both limits; without a Machine Setup no
limit is reached. A limit newly reached sets the cycle-stop flag and raises WEAR with its accumulator; nothing else
changes but the port. Jet time is tested first (entry 33). -/
def Obligations.AccumulatorsLoaded : Prop :=
  ∀ (tag : Byte) (seconds pierces : Nat) (s : State), Takes s .cell (.setAccumulators seconds pierces) →
    let limitT := (s.setups.setup.map (·.jetTimeLimit)).getD 0
    let limitN := (s.setups.setup.map (·.pierceCountLimit)).getD 0
    let wearT := limitT != 0 && decide (limitT ≤ seconds)
    let wearN := limitN != 0 && decide (limitN ≤ pierces)
    let newT := wearT && !s.jet.wearJetTime
    let newN := wearN && !s.jet.wearPierceCount
    let x : AlertContext := ⟨s.cyc.active, s.path.cursor, s.cyc.mstate⟩
    let first := if newT then some (recordAlert .wear { accumulator := some .jetTime } x s.alert) else s.alert
    exec (.setAccumulators .cell tag seconds pierces) s
      = .next (sendReply .cell tag .ok (num4 seconds ++ num4 pierces) { frameEnded .cell s with
          jet := { s.jet with
            jetTime := seconds * 1000, pierceCount := pierces, wearJetTime := wearT, wearPierceCount := wearN }
          cyc := { s.cyc with cycleStop := s.cyc.cycleStop || newT || newN }
          alert := if newN then some (recordAlert .wear { accumulator := some .pierceCount } x first) else first })

/-! ### The Program Store -/

/-- R3, R4, R5: a DECLARE that passes the checks opens the record as LOADING and changes nothing else; the checks in
their order, each with its status, and nothing else changed. Without a Machine Setup every APPROVED set is refused by
the last check: the model's choice (entry 41). -/
def Obligations.Declare : Prop :=
  (∀ (tag : Byte) (c : Fin Config.contours) (n : Fin Config.sets) (quality : Nat) (pm : PierceMethod)
    (sm : SurfaceMode) (m : MachineSetup) (f : ProcessSet) (s : State), Ready s .cell →
    s.cyc.mstate ≠ .unconfigured → 1 ≤ quality → quality ≤ 5 → s.loading = none → s.contour? c = none →
    s.setups.sets[n].content = .approved f → s.setups.setup = some m →
    f.pCut ≤ m.pumpMax → f.backup ≤ m.backupReach → m.nominalSurface + f.hPierce ≤ m.axes.z.softMax →
    m.nominalSurface + f.hCut ≤ m.axes.z.softMax →
    exec (.declare .cell tag c n quality pm.number sm.number) s = .next (sendReply .cell tag .ok []
      { frameEnded .cell s with prog := { s.prog with contours := s.prog.contours.set c (some
          { status := .loading, slot := n, quality := quality, method := pm, surfaceMode := sm, stored := 0, jets := 0
            plannedLength := none, plannedTime := none, sealOrder := none, completed := 0, lengthDone := 0
            pierceComplete := false, holds := 0, surfaceZ := none, abandonReason := none }) } }))
  ∧ ((∀ (tag : Byte) (c n q pm sm : Nat) (s : State), Ready s .cell → s.cyc.mstate = .unconfigured →
    exec (.declare .cell tag c n q pm sm) s = .next (sendReply .cell tag .wrongState [] (frameEnded .cell s)))
  ∧ (∀ (tag : Byte) (c n q pm sm i : Nat) (s : State), Ready s .cell → s.cyc.mstate ≠ .unconfigured →
    firstFailure 1 [decide (c ≤ 31), decide (n ≤ 7), decide (1 ≤ q ∧ q ≤ 5), decide (pm ≤ 2), decide (sm ≤ 1)]
      = some i →
    exec (.declare .cell tag c n q pm sm) s = .next (sendReply .cell tag .range (num1 i) (frameEnded .cell s)))
  ∧ (∀ (tag : Byte) (c : Fin Config.contours) (n : Fin Config.sets) (q pm sm : Nat) (s : State), Ready s .cell →
    s.cyc.mstate ≠ .unconfigured → 1 ≤ q → q ≤ 5 → pm ≤ 2 → sm ≤ 1 →
    (s.loading ≠ none →
      exec (.declare .cell tag c n q pm sm) s = .next (sendReply .cell tag .wrongState [] (frameEnded .cell s)))
    ∧ (s.loading = none → s.contour? c ≠ none →
      exec (.declare .cell tag c n q pm sm) s = .next (sendReply .cell tag .inUse [] (frameEnded .cell s)))
    ∧ (s.loading = none → s.contour? c = none → s.setups.sets[n].isApproved = false →
      exec (.declare .cell tag c n q pm sm) s = .next (sendReply .cell tag .notApproved [] (frameEnded .cell s)))
    ∧ (s.loading = none → s.contour? c = none → ∀ f m, s.setups.sets[n].content = .approved f →
      s.setups.setup = some m →
      (m.pumpMax < f.pCut ∨ m.backupReach < f.backup ∨ m.axes.z.softMax < m.nominalSurface + f.hPierce
        ∨ m.axes.z.softMax < m.nominalSurface + f.hCut) →
      exec (.declare .cell tag c n q pm sm) s = .next (sendReply .cell tag .setConflict [] (frameEnded .cell s)))
    ∧ (s.loading = none → s.contour? c = none → s.setups.sets[n].isApproved = true → s.setups.setup = none →
      exec (.declare .cell tag c n q pm sm) s = .next (sendReply .cell tag .setConflict [] (frameEnded .cell s)))))

/-- R32, R20, R27 to R31, R189: an APPEND whose entries pass stores the kept ones at the newest end, LOADED, with
consecutive sequence numbers, raises the counts, and changes nothing else. The first entry that fails refuses the
whole APPEND with its status and index; the capacity refusals carry no index; a body of no entry or of more than 8 is
MALFORMED, and nothing is stored. An entry is judged by its class code, the class order after the previous kept segment
and the geometry, in this order, and a LINE of zero length is discarded. That the free slot count of a reply takes four
bytes and the two counts one byte each is the model's choice (entry 46). -/
def Obligations.Append : Prop :=
  ((∀ (tag : Byte) (c : Fin Config.contours) (es : List Entry) (r : Contour) (m : MachineSetup)
    (kept : List (SegClass × Computed)) (discarded : Nat) (s : State), Ready s .cell →
    1 ≤ es.length → es.length ≤ 8 → s.contour? c = some r → r.status = .loading → s.setups.setup = some m →
    validate m ((s.segmentsOf c).getLast?.map fun g => (g.cls, g.finish)) 1 es = .ok (kept, discarded) →
    r.stored + kept.length ≤ 200 → kept.length ≤ s.freeSlots → s.prog.nextSeq + kept.length ≤ 4294967296 →
    exec (.append .cell tag c es) s = .next (sendReply .cell tag .ok
      (optional 4 num4 (if kept.length = 0 then none else some s.prog.nextSeq) ++ num1 kept.length ++ num1 discarded
        ++ num4 (s.freeSlots - kept.length))
      { frameEnded .cell s with prog := { s.prog with
          contours := s.prog.contours.set c (some { r with
            stored := r.stored + kept.length, jets := r.jets + (kept.filter fun k => k.1.isJet).length })
          segments := s.prog.segments ++ newSegments c s.prog.nextSeq kept
          nextSeq := s.prog.nextSeq + kept.length } }))
  ∧ ∀ (c : Fin Config.contours) (seq : Nat) (kept : List (SegClass × Computed)),
      (newSegments c seq kept).map (·.seq) = List.range' seq kept.length
      ∧ ∀ g ∈ newSegments c seq kept, g.state = .loaded ∧ g.contour = c ∧ g.plan = none)
  ∧ (∀ (tag : Byte) (es : List Entry) (s : State), Ready s .cell →
    (¬ (1 ≤ es.length ∧ es.length ≤ 8) → ∀ c : Nat,
      exec (.append .cell tag c es) s = .next (sendReply .cell tag .malformed [] (frameEnded .cell s)))
    ∧ (1 ≤ es.length → es.length ≤ 8 →
      (∀ c : Nat, 32 ≤ c →
        exec (.append .cell tag c es) s = .next (sendReply .cell tag .range (num1 0) (frameEnded .cell s)))
      ∧ ∀ c : Fin Config.contours,
        (s.statusOf c ≠ some .loading →
          exec (.append .cell tag c es) s = .next (sendReply .cell tag .wrongState [] (frameEnded .cell s)))
        ∧ ∀ (r : Contour) (m : MachineSetup), s.contour? c = some r → r.status = .loading → s.setups.setup = some m →
          let v := validate m ((s.segmentsOf c).getLast?.map fun g => (g.cls, g.finish)) 1 es
          (∀ st i, v = .error (st, i) →
            exec (.append .cell tag c es) s = .next (sendReply .cell tag st (num1 i) (frameEnded .cell s)))
          ∧ ∀ kept discarded, v = .ok (kept, discarded) →
            (200 < r.stored + kept.length →
              exec (.append .cell tag c es) s
                = .next (sendReply .cell tag .contourTooLong [] (frameEnded .cell s)))
            ∧ (r.stored + kept.length ≤ 200 → s.freeSlots < kept.length →
              exec (.append .cell tag c es) s
                = .next (sendReply .cell tag .storeFull (num4 s.freeSlots) (frameEnded .cell s)))
            ∧ (r.stored + kept.length ≤ 200 → kept.length ≤ s.freeSlots →
              4294967295 < s.prog.nextSeq + kept.length - 1 →
              exec (.append .cell tag c es) s
                = .next (sendReply .cell tag .storeFull (num4 s.freeSlots) (frameEnded .cell s)))))
  ∧ ∀ (m : MachineSetup) (prev : Option (SegClass × Point)) (i : Nat) (e : Entry) (es : List Entry),
    validate m prev i [] = .ok ([], 0)
    ∧ (5 ≤ e.classCode → validate m prev i (e :: es) = .error (.range, i))
    ∧ ∀ cls, [SegClass.traverse, .leadin, .cut, .tab, .leadout][e.classCode]? = some cls →
      let inOrder : Prop := cls ∈ (match prev.map (·.1) with
        | none => [SegClass.traverse]
        | some .traverse => [.traverse, .leadin, .cut, .tab, .leadout]
        | some .leadin => [.leadin, .cut, .tab, .leadout]
        | some .cut => [.cut, .tab, .leadout]
        | some .tab => [.cut, .leadout]
        | some .leadout => [.leadout])
      let allowed : Prop := inOrder ∧ ¬ (cls = .tab ∧ e.shape ≠ .line)
      (¬ allowed → validate m prev i (e :: es) = .error (.order, i))
      ∧ (∀ st, allowed → computeEntry m cls e (prev.map (·.2)) = .error st →
        validate m prev i (e :: es) = .error (st, i))
      ∧ ∀ g, allowed → computeEntry m cls e (prev.map (·.2)) = .ok g →
        (g.shape = .line ∧ g.start = some g.finish →
          validate m prev i (e :: es) = (validate m prev (i + 1) es).map fun r => (r.1, r.2 + 1))
        ∧ (¬ (g.shape = .line ∧ g.start = some g.finish) →
          validate m prev i (e :: es)
            = (validate m (some (cls, g.finish)) (i + 1) es).map fun r => ((cls, g) :: r.1, r.2))

/-- R6, R7, R8, R18, R66: a SEAL that passes plans the contour's jet segments, makes its segments PLANNED, writes the
totals and the seal order number, and joins the Run List's tail; in RUNNING WAIT the contour is then taken at once, and
the reply carries RUNNING. The first condition of R6 that holds refuses it: RANGE, NO_SUCH, WRONG_STATE, NO_CUT, ORDER,
CREEP_SHORT. The Z motion field is the model's (entry 19). -/
def Obligations.SealTaken : Prop :=
  (∀ (tag : Byte) (c : Fin Config.contours) (r : Contour) (f : ProcessSet) (m : MachineSetup) (s : State),
    Ready s .cell → s.contour? c = some r → r.status = .loading → s.setFields r.slot = some f →
    s.setups.setup = some m →
    let run := (s.segmentsOf c).filter fun g => g.cls.isJet
    (∃ g ∈ run, g.cls = .cut) → (∀ g, run.head? = some g → g.cls ≠ .tab) → (∀ g, run.getLast? = some g → g.cls ≠ .tab) →
    (r.method = .creep → ∃ g, run.head? = some g ∧ g.cls = .leadin ∧ f.vCreep * f.tRamp / 1000 ≤ g.len) →
    let plans := planRun f m r.quality run
    let prog : ProgramStore := { s.prog with
      contours := s.prog.contours.set c (some { r with
        status := .sealed, plannedLength := some (run.map (·.len)).sum, plannedTime := some (plans.map (·.time)).sum
        sealOrder := some s.prog.sealCounter })
      segments := s.prog.segments.map fun g =>
        if g.contour = c then { g with plan := planOf ((run.map (·.seq)).zip plans) g, state := .planned } else g
      runList := s.prog.runList ++ [c]
      sealCounter := (s.prog.sealCounter + 1) % 65536 }
    let items := num8 (run.map (·.len)).sum ++ num8 (plans.map (·.time)).sum ++ num4 s.prog.sealCounter
    (¬ (s.cyc.mstate = .running ∧ s.cyc.phase = some .wait) →
      exec (.sealContour .cell tag c) s = .next (sendReply .cell tag .ok items { frameEnded .cell s with prog := prog }))
    ∧ (s.cyc.mstate = .running → s.cyc.phase = some .wait → s.cyc.cycleStop = false → s.prog.runList = [] →
      (∃ t rep, exec (.sealContour .cell tag c) s = .next t ∧ t.ports.cell.reply = some rep ∧ rep.status = .ok
        ∧ rep.body.head? = some (BitVec.ofNat 8 MachineState.running.number))
      ∧ (s.axes.z.command ≠ m.zClearance →
        ∃ t, exec (.sealContour .cell tag c) s = .next (sendReply .cell tag .ok items t)
          ∧ t.cyc.mstate = .running ∧ t.cyc.phase = some .approach ∧ t.cyc.active = some c ∧ t.prog.runList = []
          ∧ t.statusOf c = some .active ∧ t.zmotion = .moving m.zClearance .approach)))
  ∧ (∀ (tag : Byte) (n : Nat) (s : State), Ready s .cell → 32 ≤ n →
    exec (.sealContour .cell tag n) s = .next (sendReply .cell tag .range (num1 0) (frameEnded .cell s)))
  ∧ ∀ (tag : Byte) (c : Fin Config.contours) (s : State), Ready s .cell →
    (s.contour? c = none →
      exec (.sealContour .cell tag c) s = .next (sendReply .cell tag .noSuch [] (frameEnded .cell s)))
    ∧ ∀ r, s.contour? c = some r →
      (r.status ≠ .loading →
        exec (.sealContour .cell tag c) s = .next (sendReply .cell tag .wrongState [] (frameEnded .cell s)))
      ∧ ∀ f m, r.status = .loading → s.setFields r.slot = some f → s.setups.setup = some m →
        let run := (s.segmentsOf c).filter fun g => g.cls.isJet
        ((∀ g ∈ run, g.cls ≠ .cut) →
          exec (.sealContour .cell tag c) s = .next (sendReply .cell tag .noCut [] (frameEnded .cell s)))
        ∧ ((∃ g ∈ run, g.cls = .cut) →
          (((∃ g, run.head? = some g ∧ g.cls = .tab) ∨ ∃ g, run.getLast? = some g ∧ g.cls = .tab) →
            exec (.sealContour .cell tag c) s = .next (sendReply .cell tag .order (num1 0) (frameEnded .cell s)))
          ∧ ∀ g, run.head? = some g → g.cls ≠ .tab → (∀ h, run.getLast? = some h → h.cls ≠ .tab) → r.method = .creep →
            (g.cls ≠ .leadin ∨ g.len < f.vCreep * f.tRamp / 1000) →
            exec (.sealContour .cell tag c) s = .next (sendReply .cell tag .creepShort [] (frameEnded .cell s)))

/-- R14, R15: CLEAR_CONTOUR frees the record and its segments and takes it out of the Run List; the LOADING contour
cleared in WAIT with an empty Run List ends the cycle; FREE and ACTIVE contours are refused. -/
def Obligations.ClearContour : Prop :=
  (∀ (tag : Byte) (c : Fin Config.contours) (r : Contour) (s : State), Ready s .cell → s.contour? c = some r →
    r.status ≠ .active → StoreLaw s →
    let prog : ProgramStore := { s.prog with
      contours := s.prog.contours.set c none
      runList := s.prog.runList.filter (· != c)
      segments := s.prog.segments.filter fun g => g.contour != c }
    let items := num4 (s.segmentsOf c).length ++ num4 (s.freeSlots + (s.segmentsOf c).length)
    (¬ (r.status = .loading ∧ s.cyc.phase = some .wait ∧ s.prog.runList.filter (· != c) = []) →
      exec (.clearContour .cell tag c) s
        = .next (sendReply .cell tag .ok items { frameEnded .cell s with prog := prog }))
    ∧ (r.status = .loading → s.cyc.phase = some .wait → s.prog.runList.filter (· != c) = [] →
      ∃ t, exec (.clearContour .cell tag c) s = .next (sendReply .cell tag .ok items t)
        ∧ t = { frameEnded .cell s with
            prog := prog, jet := s.jet.shut t.jet.bandIn
            cyc := { s.cyc with mstate := .idle, phase := none, hold := none, deferredHold := false
                                abortPending := false, suspension := false } }))
  ∧ ∀ (tag : Byte) (s : State), Ready s .cell →
    (∀ c : Fin Config.contours, s.contour? c = none →
      exec (.clearContour .cell tag c) s = .next (sendReply .cell tag .noSuch [] (frameEnded .cell s)))
    ∧ (∀ c : Fin Config.contours, s.statusOf c = some .active →
      exec (.clearContour .cell tag c) s = .next (sendReply .cell tag .wrongState [] (frameEnded .cell s)))
    ∧ ∀ c : Nat, 32 ≤ c →
      exec (.clearContour .cell tag c) s = .next (sendReply .cell tag .range (num1 0) (frameEnded .cell s))

/-- R16: CLEAR_PROGRAM in IDLE frees every record, the Run List and the store, and keeps the seal counter and the next
sequence number; in every other state it is refused. -/
def Obligations.ClearProgram : Prop :=
  ∀ (tag : Byte) (s : State), Ready s .cell →
    (s.cyc.mstate = .idle →
      exec (.clearProgram .cell tag) s = .next (sendReply .cell tag .ok
        (num4 ((List.finRange Config.contours).filter fun c => (s.contour? c).isSome).length)
        { frameEnded .cell s with prog := { s.prog with
            contours := Vector.replicate _ none, runList := [], segments := [] } }))
    ∧ (s.cyc.mstate ≠ .idle →
      exec (.clearProgram .cell tag) s = .next (sendReply .cell tag .wrongState [] (frameEnded .cell s)))

/-- R19, R20, R9: every step keeps the store within its 256 slots, the sequence numbers rising, and at most one
contour LOADING. -/
def Obligations.StepsKeepStoreLaws : Prop :=
  (∀ s t : State, step s = .next t → (StoreLaw s → StoreLaw t) ∧ (SequenceLaw s → SequenceLaw t))
  ∧ (∀ s t : State, step s = .next t → LoadingLaw s → LoadingLaw t)

/-- R9, R10, R111: every step keeps the Run List the list of the SEALED contours, each once, and at most one contour
ACTIVE. The second law needs the first, which ties the active contour to the phases of a cycle. -/
def Obligations.StepsKeepRunList : Prop :=
  ∀ s t : State, step s = .next t → CycleLaw s → CycleLaw t ∧ (RunListLaw s → RunListLaw t)

/-- 00_scope.md, Arithmetic: isqrt is the floor of the exact square root. -/
def Obligations.IntegerRoot : Prop := ∀ n : Nat, isqrt n * isqrt n ≤ n ∧ n < (isqrt n + 1) * (isqrt n + 1)

/-- R38 to R47: what the Geometry Unit accepts ends inside the windows; a LINE has the length and direction of its
difference; an ARC has a start and an end radius in their range and within the tolerance, the sweep of its two radius
vectors, which is a whole turn exactly where it ends at its start, its length and tangents, and every axis extreme
within its sweep lies inside the windows. -/
def Obligations.StoredGeometry : Prop :=
  ∀ (m : MachineSetup) (cls : SegClass) (e : Entry) (start : Option Point) (g : Computed),
    computeEntry m cls e start = .ok g →
      g.finish = ⟨e.endX, e.endY⟩ ∧ inWindows m g.finish = true ∧ e.endX.natAbs ≤ 8000000 ∧ e.endY.natAbs ≤ 8000000
      ∧ g.start = start ∧ (start = none → g.shape = .line ∧ g.length = none)
      ∧ (∀ s, start = some s → g.shape = .line →
          g.length = some (g.finish.sub s).norm ∧ g.tangents = some ⟨g.finish.sub s, g.finish.sub s⟩)
      ∧ ∀ d c r sweep, g.shape = .arc d c r sweep →
          cls ≠ .traverse ∧ e.shape = .arc c.x c.y ∧ d = (if e.cw then .cw else .ccw)
          ∧ c.x.natAbs ≤ 16000000 ∧ c.y.natAbs ≤ 16000000 ∧ 100 ≤ r ∧ r ≤ 4000000 ∧ 1 ≤ sweep ∧ sweep ≤ 65536
          ∧ 100 ≤ (g.finish.sub c).norm ∧ (g.finish.sub c).norm ≤ 4000000
          ∧ ∃ s, start = some s ∧ r = (s.sub c).norm ∧ absDiff r (g.finish.sub c).norm ≤ m.arcTolerance
              ∧ sweep = arcSweep d (s.sub c) (g.finish.sub c) ∧ (sweep = 65536 ↔ g.finish = s)
              ∧ (∀ e ∈ axisExtremes c r, withinSweep d (s.sub c) e.1 sweep = true → inWindows m e.2 = true)
              ∧ g.length = some (arcLength r sweep) ∧ 1 ≤ arcLength r sweep
              ∧ g.tangents = some ⟨arcTangent d (s.sub c), arcTangent d (g.finish.sub c)⟩

/-- R53: the quality speed and its range. -/
def Obligations.QualitySpeed : Prop :=
  ∀ (f : ProcessSet) (q : Nat), 1 ≤ q → q ≤ 5 →
    let qf := [f.qf1, f.qf2, f.qf3, f.qf4, f.qf5].getD (q - 1) 0
    qualitySpeed f q = f.vSep * qf / 1024
      ∧ (50 ≤ f.vSep → f.vSep ≤ 20000 → 64 ≤ qf → qf ≤ 1024 → 3 ≤ qualitySpeed f q ∧ qualitySpeed f q ≤ 20000)

/-- R62: the speeds of a planned jet run. -/
def Obligations.PlannedSpeeds : Prop :=
  ∀ (f : ProcessSet) (m : MachineSetup) (q : Nat) (run : List Segment), (∀ b, ProcessSet.cf f b ≤ 1024) →
    let plans := planRun f m q run
    plans.length = run.length
      ∧ ∀ (i : Nat) (p : Plan) (g : Segment), plans[i]? = some p → run[i]? = some g →
        p.entry ≤ p.vMax ∧ p.exit ≤ p.vMax ∧ p.entry ≤ p.cruise ∧ p.exit ≤ p.cruise ∧ p.cruise ≤ p.vMax ∧ (i = 0 → p.entry = 0) ∧ (i + 1 = run.length → p.exit = 0)
        ∧ p.entry * p.entry ≤ p.exit * p.exit + 2 * m.accel * g.len
        ∧ p.exit * p.exit ≤ p.entry * p.entry + 2 * m.accel * g.len
        ∧ ∀ (p' : Plan) (g' : Segment), plans[i + 1]? = some p' → run[i + 1]? = some g' →
          p.exit = p'.entry ∧ p.exit ≤ junctionLimit f g g' p.vMax p'.vMax

/-- R34: the retained window keeps the newest segments, at least one and at most 32, and releases the oldest while the
others reach B_max. -/
def Obligations.RetainedWindow : Prop :=
  ∀ (reach : Nat) (gs : List Segment),
    let kept := windowKeeps reach gs
    (∃ gone, gs = gone ++ kept
      ∧ ∀ (pre post : List Segment) (g : Segment), gone = pre ++ g :: post →
        32 < (post ++ kept).length + 1 ∨ (post ++ kept ≠ [] ∧ reach ≤ ((post ++ kept).map (·.len)).sum))
    ∧ (gs ≠ [] → kept ≠ []) ∧ kept.length ≤ 32
    ∧ (2 ≤ kept.length → (kept.tail.map (·.len)).sum < reach)

/-! ### The cycle, holds and the resume -/

/-- R112, R10, R114, R93: a CYCLE_START that passes takes the head of the Run List, or waits for the LOADING contour;
the first condition that fails refuses it. Z is not at clearance already, and CONTACT is negated. The reply's phase is
entry 12, the Z motion field entry 19. -/
def Obligations.CycleStartTakes : Prop :=
  (∀ (tag : Byte) (c : Fin Config.contours) (rest : List (Fin Config.contours)) (r : Contour) (m : MachineSetup)
    (f : ProcessSet) (s : State), Takes s .pendant .cycleStart → s.cyc.mstate = .idle →
    (∀ a, (s.chan a).homed = true) → s.prog.runList = c :: rest → s.lines.pumprdy = true →
    s.jet.wearJetTime = false → s.jet.wearPierceCount = false → s.lines.contact = false → s.contour? c = some r →
    s.setups.setup = some m → s.setFields r.slot = some f → s.axes.z.command ≠ m.zClearance →
    ∃ t, exec (.cycleStart .pendant tag) s
        = .next (sendReply .pendant tag .ok (optional 1 num1 (some Phase.approach.number)) t)
      ∧ t = { frameEnded .pendant s with
          cyc := { s.cyc with mstate := .running, phase := some .approach, active := some c, cycleStop := false }
          prog := { s.prog with contours := s.prog.contours.set c (some { r with status := .active }), runList := rest }
          jet := { s.jet.shut t.jet.bandIn with demand := f.pPierce }
          axes := { s.axes with z := { s.axes.z with speedSq := 0 } }
          zmotion := .moving m.zClearance .approach })
  ∧ (∀ (tag : Byte) (s : State), Takes s .pendant .cycleStart → s.cyc.mstate = .idle →
    (∀ a, (s.chan a).homed = true) → s.prog.runList = [] → s.loading ≠ none → s.lines.pumprdy = true →
    s.jet.wearJetTime = false → s.jet.wearPierceCount = false → s.lines.contact = false →
    ∃ t, exec (.cycleStart .pendant tag) s
        = .next (sendReply .pendant tag .ok (optional 1 num1 (some Phase.wait.number)) t)
      ∧ t = { frameEnded .pendant s with
          cyc := { s.cyc with mstate := .running, phase := some .wait, cycleStop := false }
          jet := s.jet.shut t.jet.bandIn })
  ∧ ∀ (tag : Byte) (st : Status) (s : State), Takes s .pendant .cycleStart →
    ((s.cyc.mstate ≠ .idle ∧ st = .wrongState)
      ∨ (s.cyc.mstate = .idle ∧ allHomed s = false ∧ st = .notHomed)
      ∨ (s.cyc.mstate = .idle ∧ allHomed s = true ∧ s.prog.runList = [] ∧ s.loading = none ∧ st = .runListEmpty)
      ∨ (s.cyc.mstate = .idle ∧ allHomed s = true ∧ (s.prog.runList ≠ [] ∨ s.loading ≠ none)
          ∧ s.lines.pumprdy = false ∧ st = .pumpNotReady)
      ∨ (s.cyc.mstate = .idle ∧ allHomed s = true ∧ (s.prog.runList ≠ [] ∨ s.loading ≠ none)
          ∧ s.lines.pumprdy = true ∧ (s.jet.wearJetTime = true ∨ s.jet.wearPierceCount = true) ∧ st = .wearLimit)) →
    exec (.cycleStart .pendant tag) s = .next (sendReply .pendant tag st [] (frameEnded .pendant s))

/-- R130, R131, R133, R136: HOLD by machine state; in RESUMING the hold keeps the phase and the jet-close point of the
record that is there. The motion fields are entry 19. -/
def Obligations.HoldRequest : Prop :=
  ∀ (p : Port) (tag : Byte) (s : State), Ready s p →
    (s.cyc.mstate = .running → s.cyc.abortPending = false → pierceInProgress s = true →
      exec (.hold p tag) s = .next (sendReply p tag .ok []
        { frameEnded p s with cyc := { s.cyc with deferredHold := true } }))
    ∧ (s.cyc.mstate = .running → s.cyc.abortPending = false → pierceInProgress s = false →
      ∃ t, exec (.hold p tag) s = .next (sendReply p tag .ok [] t) ∧ HoldTaken .request {} (frameEnded p s) t)
    ∧ (∀ h, s.cyc.mstate = .resuming → s.cyc.abortPending = false → s.cyc.hold = some h →
      ∃ t, exec (.hold p tag) s = .next (sendReply p tag .ok [] t) ∧ HoldTaken .request {} (frameEnded p s) t
        ∧ t.cyc.hold = some
            { cause := .request, phase := h.phase, jetClose := h.jetClose
              stop := if atRest s then stopPoint s else none, rejoin := none, step := none })
    ∧ ((s.cyc.mstate = .holding ∨ s.cyc.mstate = .held
        ∨ ((s.cyc.mstate = .running ∨ s.cyc.mstate = .resuming) ∧ s.cyc.abortPending = true)) →
      exec (.hold p tag) s = .next (sendReply p tag .ok [] (frameEnded p s)))
    ∧ (s.cyc.mstate.inCycle = false →
      exec (.hold p tag) s = .next (sendReply p tag .wrongState [] (frameEnded p s)))

/-- R97, R98, R100, R101, R115, R126, R129, R133, R136: a hold cause that arrives in RUNNING or RESUMING with no ABORT
pending takes a hold; a Jet Controller report brings the jet state and the demand. R125, R126, R129, R152: in HOLDING,
HELD and FAULT, and with an ABORT pending, a change of the key into SERVICE and an expiry of the settle, dip or grace
timer raise their alert and take no hold, and with the jet CLOSED a PUMPRDY event changes the line alone. The level
that a PUMPRDY event carries, and its event with the level asserted, are the model's (entry 4), the jump of Z to the
probe target is entry 14, the motion fields entry 19. -/
def Obligations.HoldCauses : Prop :=
  (∀ s : State, Live s → (s.cyc.mstate = .running ∨ s.cyc.mstate = .resuming) → s.cyc.abortPending = false →
    let report : AlertDetail := { jetState := some s.jet.state, demand := some s.jet.demand }
    (∀ ms, s.jet.settle = .running ms →
      ∃ t, exec .settleTimerExpiry s = .next t ∧ HoldTaken .pressureSettle report s t)
    ∧ (∀ ms, s.jet.dip = .running ms →
      ∃ t, exec .dipTimerExpiry s = .next t ∧ HoldTaken .pressureDip report s t)
    ∧ (∀ ms, s.jet.abrasiveGrace = .running ms →
      ∃ t, exec .abrasiveGraceExpiry s = .next t ∧ HoldTaken .abrasive report s t)
    ∧ (s.lines.pumprdy = true → s.jet.state ≠ .closed →
      ∃ t, exec (.pumprdyNegate false) s = .next t
        ∧ HoldTaken .pump report { s with lines := { s.lines with pumprdy := false } } t)
    ∧ (∀ level, (s.jet.state = .closed ∨ s.lines.pumprdy = false ∨ level = true) →
      exec (.pumprdyNegate level) s = .next { s with lines := { s.lines with pumprdy := level } })
    ∧ (∀ z, s.zmotion = .probing z →
      ∃ t, exec .probeEndOfTravel s = .next t ∧ HoldTaken .noSurface {} (zReaches z s) t)
    ∧ (s.ports.keyMode ≠ .service →
      ∃ t, exec (.keyModeChange true false) s = .next t
        ∧ HoldTaken .key {} (formOverride { s with
            lines := { s.lines with key1 := true, key0 := false }, ports := { s.ports with keyMode := .service } }) t))
  ∧ (∀ s : State, Live s →
    (s.cyc.mstate = .holding ∨ s.cyc.mstate = .held ∨ s.cyc.mstate = .fault
      ∨ ((s.cyc.mstate = .running ∨ s.cyc.mstate = .resuming) ∧ s.cyc.abortPending = true)) →
    let report : AlertDetail := { jetState := some s.jet.state, demand := some s.jet.demand }
    let raised : AlertCode → Option AlertRecord := fun code =>
      some (recordAlert code report ⟨s.cyc.active, s.path.cursor, s.cyc.mstate⟩ s.alert)
    (∀ ms, s.jet.settle = .running ms →
      exec .settleTimerExpiry s
        = .next { s with jet := { s.jet with settle := .stopped }, alert := raised .pressureSettle })
    ∧ (∀ ms, s.jet.dip = .running ms →
      exec .dipTimerExpiry s
        = .next { s with jet := { s.jet with dip := .stopped, dipWatch := false }, alert := raised .pressureDip })
    ∧ (∀ ms, s.jet.abrasiveGrace = .running ms →
      exec .abrasiveGraceExpiry s
        = .next { s with jet := { s.jet with abrasiveGrace := .stopped, abrasiveWatch := false }
                         alert := raised .abrasive })
    ∧ (s.ports.keyMode ≠ .service →
      exec (.keyModeChange true false) s = .next { (formOverride { s with
          lines := { s.lines with key1 := true, key0 := false }, ports := { s.ports with keyMode := .service } }) with
        alert := some (recordAlert .key {} ⟨s.cyc.active, s.path.cursor, s.cyc.mstate⟩ s.alert) })
    ∧ (s.jet.state = .closed → ∀ level,
      exec (.pumprdyNegate level) s = .next { s with lines := { s.lines with pumprdy := level } }))

/-- R123, R124, R12, R93, R170: CYCLE_STOP sets the flag, or ends a cycle in WAIT. ABORT with motion under way closes
the jet and brings the motion to rest, once; in HELD, or where nothing moves, it abandons the contour at once; in
JOGGING it stops the jog; in IDLE, UNCONFIGURED and FAULT it does nothing. The motion fields are entry 19. -/
def Obligations.CycleStopAndAbort : Prop :=
  ∀ (p : Port) (tag : Byte) (s : State), Ready s p →
    let ended : CycleController := { s.cyc with
      mstate := .idle, phase := none, hold := none, deferredHold := false, abortPending := false, suspension := false }
    let preCharged : Prop := s.cyc.mstate = .running
      ∧ (s.cyc.phase = some .approach ∨ s.cyc.phase = some .probe ∨ s.cyc.phase = some .pierce)
    (s.cyc.mstate.inCycle = true → s.cyc.phase ≠ some .wait →
      exec (.cycleStop p tag) s = .next (sendReply p tag .ok []
        { frameEnded p s with cyc := { s.cyc with cycleStop := true } }))
    ∧ (s.cyc.mstate.inCycle = true → s.cyc.phase = some .wait →
      ∃ t, exec (.cycleStop p tag) s = .next (sendReply p tag .ok [] t)
        ∧ exec (.abort p tag) s = .next (sendReply p tag .ok [] t)
        ∧ t = { frameEnded p s with cyc := ended, jet := s.jet.shut t.jet.bandIn })
    ∧ (s.cyc.mstate.inCycle = false →
      exec (.cycleStop p tag) s = .next (sendReply p tag .wrongState [] (frameEnded p s)))
    ∧ ((s.cyc.mstate = .running ∨ s.cyc.mstate = .holding ∨ s.cyc.mstate = .resuming) → s.cyc.phase ≠ some .wait →
      s.cyc.abortPending = false → atRest s = false →
      ∃ t, exec (.abort p tag) s = .next (sendReply p tag .ok [] t)
        ∧ t = { frameEnded p s with
            cyc := { s.cyc with abortPending := true }
            jet := { s.jet.shut t.jet.bandIn with demand := t.jet.demand }
            path := { s.path with motion := if pathStill s then .rest else .decel }
            zmotion := s.zmotion.halted }
        ∧ (preCharged → t.jet.demand = (s.activeSet.map (·.pPierce)).getD 0)
        ∧ (¬ preCharged → t.jet.demand = 0))
    ∧ ((s.cyc.mstate = .running ∨ s.cyc.mstate = .holding ∨ s.cyc.mstate = .resuming) → s.cyc.phase ≠ some .wait →
      s.cyc.abortPending = true → exec (.abort p tag) s = .next (sendReply p tag .ok [] (frameEnded p s)))
    ∧ (∀ c, (s.cyc.mstate = .held
        ∨ ((s.cyc.mstate = .running ∨ s.cyc.mstate = .holding ∨ s.cyc.mstate = .resuming)
            ∧ s.cyc.abortPending = false ∧ atRest s = true)) →
      s.cyc.phase ≠ some .wait → s.cyc.active = some c →
      ∃ t, exec (.abort p tag) s = .next (sendReply p tag .ok [] t)
        ∧ t = { frameEnded p s with
            cyc := { ended with active := none }, prog := programAbandoned .abort s
            jet := s.jet.shut t.jet.bandIn
            path := { s.path with cursor := none, speedSq := 0, motion := .rest } })
    ∧ (s.cyc.mstate = .jogging → s.jog.axis ≠ none →
      exec (.abort p tag) s = .next (sendReply p tag .ok []
        { frameEnded p s with jog := { s.jog with stopping := true } }))
    ∧ ((s.cyc.mstate = .idle ∨ s.cyc.mstate = .unconfigured ∨ s.cyc.mstate = .fault) →
      exec (.abort p tag) s = .next (sendReply p tag .ok [] (frameEnded p s)))

/-- R137, R138, R113, R11: a RESUME outside HELD, or of a pump or pressure cause with PUMPRDY negated, is refused; the
resume of a hold in APPROACH, PROBE or RETRACT names the Z move to clearance in that phase, the hold record cleared;
that of a hold in PIERCE names the Z move of step 1 of the contour's method; that of a hold in WAIT applies the
continuation: the cycle ends, waits again, or takes the head of the Run List. The reply's phase is entry 12, its order
entry 23, the Z motion field entry 19. -/
def Obligations.ResumeRestartsPhase : Prop :=
  ((∀ (tag : Byte) (s : State), Takes s .pendant .resume →
    (s.cyc.mstate ≠ .held →
      exec (.resume .pendant tag) s = .next (sendReply .pendant tag .wrongState [] (frameEnded .pendant s)))
    ∧ ∀ h, s.cyc.mstate = .held → s.cyc.hold = some h →
      (h.cause = .pump ∨ h.cause = .pressureSettle ∨ h.cause = .pressureDip) → s.lines.pumprdy = false →
      exec (.resume .pendant tag) s = .next (sendReply .pendant tag .causePresent [] (frameEnded .pendant s)))
  ∧ (∀ (tag : Byte) (h : HoldRecord) (m : MachineSetup) (purpose : ZPurpose) (s : State),
    Takes s .pendant .resume → s.cyc.mstate = .held → s.cyc.hold = some h →
    (h.cause = .request ∨ h.cause = .abrasive ∨ h.cause = .noSurface ∨ h.cause = .key ∨ s.lines.pumprdy = true) →
    s.setups.setup = some m → s.axes.z.command ≠ m.zClearance →
    ((h.phase = .approach ∧ purpose = .approach) ∨ (h.phase = .probe ∧ purpose = .reprobe)
      ∨ (h.phase = .retract ∧ purpose = .retract)) →
    ∃ t, exec (.resume .pendant tag) s
        = .next (sendReply .pendant tag .ok (optional 1 num1 (some h.phase.number)) t)
      ∧ t = { frameEnded .pendant s with
          cyc := { s.cyc with mstate := .running, phase := some h.phase, hold := none }
          jet := { s.jet.shut t.jet.bandIn with demand := t.jet.demand }
          axes := { s.axes with z := { s.axes.z with speedSq := 0 } }
          zmotion := .moving m.zClearance purpose }
      ∧ t.jet.demand = (if h.phase = .retract then 0 else ((s.activeSet.map (·.pPierce)).getD 0))))
  ∧ (∀ (tag : Byte) (h : HoldRecord) (m : MachineSetup) (r : Contour) (f : ProcessSet) (s : State),
    Takes s .pendant .resume → s.cyc.mstate = .held → s.cyc.hold = some h → h.phase = .pierce →
    (h.cause = .request ∨ h.cause = .abrasive ∨ h.cause = .noSurface ∨ h.cause = .key ∨ s.lines.pumprdy = true) →
    s.setups.setup = some m → s.activeContour = some r → s.activeSet = some f → s.jet.AtRest →
    let height := min (r.surfaceZ.getD m.nominalSurface + (if r.method = .creep then f.hCut else f.hPierce))
      m.axes.z.softMax
    s.axes.z.command ≠ height →
    ∃ t, exec (.resume .pendant tag) s
        = .next (sendReply .pendant tag .ok (optional 1 num1 (some Phase.pierce.number)) t)
      ∧ t = { frameEnded .pendant s with
          cyc := { s.cyc with mstate := .running, phase := some .pierce, hold := none }
          jet := { s.jet with demand := f.pPierce, bandIn := t.jet.bandIn, pierceStep := some 1 }
          axes := { s.axes with z := { s.axes.z with speedSq := 0 } }
          zmotion := .moving height .pierceStep })
  ∧ ∀ (tag : Byte) (h : HoldRecord) (s : State), Takes s .pendant .resume → s.cyc.mstate = .held →
    s.cyc.hold = some h → h.phase = .wait →
    (h.cause = .request ∨ h.cause = .abrasive ∨ h.cause = .noSurface ∨ h.cause = .key ∨ s.lines.pumprdy = true) →
    ((s.cyc.cycleStop = true ∨ (s.prog.runList = [] ∧ s.loading = none)) →
      ∃ t, exec (.resume .pendant tag) s = .next (sendReply .pendant tag .ok (optional 1 num1 none) t)
        ∧ t = { frameEnded .pendant s with
            jet := s.jet.shut t.jet.bandIn
            cyc := { s.cyc with mstate := .idle, phase := none, hold := none, deferredHold := false
                                abortPending := false, suspension := false } })
    ∧ (s.cyc.cycleStop = false → s.prog.runList = [] → s.loading ≠ none →
      ∃ t, exec (.resume .pendant tag) s
          = .next (sendReply .pendant tag .ok (optional 1 num1 (some Phase.wait.number)) t)
        ∧ t = { frameEnded .pendant s with
            jet := s.jet.shut t.jet.bandIn
            cyc := { s.cyc with mstate := .running, phase := some .wait, hold := none } })
    ∧ ∀ (c : Fin Config.contours) (rest : List (Fin Config.contours)) (r : Contour) (f : ProcessSet) (m : MachineSetup),
      s.cyc.cycleStop = false → s.prog.runList = c :: rest → s.contour? c = some r → s.setFields r.slot = some f →
      s.setups.setup = some m → s.axes.z.command ≠ m.zClearance →
      ∃ t, exec (.resume .pendant tag) s
          = .next (sendReply .pendant tag .ok (optional 1 num1 (some Phase.approach.number)) t)
        ∧ t = { frameEnded .pendant s with
            cyc := { s.cyc with mstate := .running, phase := some .approach, active := some c, hold := none }
            prog := { s.prog with
              contours := s.prog.contours.set c (some { r with status := .active }), runList := rest }
            jet := { s.jet.shut t.jet.bandIn with demand := f.pPierce }
            axes := { s.axes with z := { s.axes.z with speedSq := 0 } }
            zmotion := .moving m.zClearance .approach }

/-- R139, R140, R141, R142: the RESUME of a hold in phase CUT walks back from the jet-close point to the rejoin point
and starts BACKUP toward it from the stop point, in REVERSE, with the jet closed; with the pierce incomplete it backs
up to the first jet segment's start. From a stop point that is the rejoin point KERF_START follows at once. The walk is
the backup distance long, or ends at the oldest segment's start; a boundary reached is distance 0 of the later segment.
The motion field is entry 19, the order of the reply entry 23; that with a backup distance of 0 the rejoin point is the
jet-close point as it stands, also at the end of a segment, is the model's choice (entry 45). -/
def Obligations.ResumeBacksUp : Prop :=
  (∀ (tag : Byte) (h : HoldRecord) (g : Segment) (f : ProcessSet) (r : Contour) (jc stop target : Pos) (s : State),
    Takes s .pendant .resume → s.cyc.mstate = .held → s.cyc.hold = some h → h.phase = .cut →
    (h.cause = .request ∨ h.cause = .abrasive ∨ h.cause = .noSurface ∨ h.cause = .key ∨ s.lines.pumprdy = true) →
    s.activeContour = some r → s.activeSet = some f → s.activeJets.head? = some g → h.jetClose = some jc →
    h.stop = some stop → s.jet.AtRest → s.jet.demand = 0 →
    let jc' := if jc.behind ⟨g.seq, 0⟩ then (⟨g.seq, 0⟩ : Pos) else jc
    target = (if r.pierceComplete then
        (walkBack (s.activeJets.reverse.filter fun x => x.seq ≤ jc'.seq) jc'.dist f.backup).getD jc'
      else ⟨g.seq, 0⟩) →
    let record : HoldRecord := { h with jetClose := some (if r.pierceComplete then jc' else jc), rejoin := some target }
    (stop ≠ target →
      ∃ t, exec (.resume .pendant tag) s = .next (sendReply .pendant tag .ok [] t)
        ∧ t = { frameEnded .pendant s with
            cyc := { s.cyc with
              mstate := .resuming, phase := some .cut, hold := some { record with step := some .backup } }
            path := { s.path with cursor := some stop, dir := .reverse, speedSq := 0, motion := .run }
            axes := t.axes }
        ∧ t.axes.z = s.axes.z)
    ∧ ∀ m, stop = target → r.pierceComplete = true → s.cyc.abortPending = false → s.setups.setup = some m →
      s.lines.pumprdy = true → f.pCut ≠ 0 →
      m.pressureBand < absDiff s.lines.pfb f.pCut → 0 < m.abrasiveDelay →
      ∃ t, exec (.resume .pendant tag) s = .next (sendReply .pendant tag .ok [] t)
        ∧ t = { frameEnded .pendant s with
            cyc := { s.cyc with
              mstate := .resuming, phase := some .cut, hold := some { record with step := some .kerfStart } }
            path := { s.path with cursor := some stop, dir := .reverse, speedSq := 0, motion := .rest }
            jet := { s.jet with
              state := .cut, demand := f.pCut, bandIn := false, settle := .running m.settleLimit
              abrasiveDelay := .running m.abrasiveDelay }
            axes := t.axes }
        ∧ t.axes.z = s.axes.z)
  ∧ ∀ (segs : List Segment) (off b : Nat), segs ≠ [] →
      ∃ (k d : Nat) (g : Segment), segs[k]? = some g ∧ walkBack segs off b = some ⟨g.seq, d⟩
        ∧ off + (((segs.take (k + 1)).tail).map (·.len)).sum = d + min b (off + ((segs.tail).map (·.len)).sum)
        ∧ (∀ g0, segs.head? = some g0 → off ≤ g0.len → d ≤ g.len) ∧ (1 ≤ k → 1 ≤ g.len → d < g.len)

/-- R77, R78, R187: SET_OVERRIDE clamps and stores the requested override, and the effective one follows at once with
the key mode; both key lines asserted leave the mode; a jet segment run FORWARD is brought down to the new envelope.
-/
def Obligations.OverrideAndKeyMode : Prop :=
  (∀ (tag : Byte) (v : Nat) (s : State), Ready s .pendant →
    let req := if v < 10 then 10 else if 100 < v then 100 else v
    let eff := if s.ports.keyMode = .setup then min req 50 else req
    let items := num1 req ++ num1 eff
    ((s.path.cursor = none ∨ s.path.motion = .rest) →
      exec (.setOverride .pendant tag v) s = .next (sendReply .pendant tag .ok items
        { frameEnded .pendant s with
          cyc := { s.cyc with reqOverride := req }, path := { s.path with override := eff } }))
    ∧ ∀ (m : MachineSetup) (q : Pos) (g : Segment) (pl : Plan), s.setups.setup = some m → s.path.cursor = some q →
      s.cursorSegment = some g → g.cls ≠ .traverse → g.plan = some pl → s.path.dir = .forward →
      s.path.motion ≠ .rest →
      exec (.setOverride .pendant tag v) s = .next (sendReply .pendant tag .ok items
        { frameEnded .pendant s with
          cyc := { s.cyc with reqOverride := req }
          path := { s.path with
            override := eff
            speedSq := min s.path.speedSq
              (envelope m.accel pl g.len q.dist * eff / 100 * (envelope m.accel pl g.len q.dist * eff / 100)) } }))
  ∧ (∀ s : State, Live s → s.ports.keyMode ≠ .setup → (s.path.cursor = none ∨ s.path.motion = .rest) →
    exec (.keyModeChange false true) s = .next { s with
      lines := { s.lines with key1 := false, key0 := true }, ports := { s.ports with keyMode := .setup }
      path := { s.path with override := min s.cyc.reqOverride 50 } })
  ∧ (∀ s : State, Live s → s.ports.keyMode ≠ .production → (s.path.cursor = none ∨ s.path.motion = .rest) →
    s.cyc.mstate ≠ .homing → s.cyc.mstate ≠ .jogging → s.cyc.mstate ≠ .fault →
    exec (.keyModeChange false false) s = .next { s with
      lines := { s.lines with key1 := false, key0 := false }, ports := { s.ports with keyMode := .production }
      path := { s.path with override := s.cyc.reqOverride } })
  ∧ ∀ s : State, Live s →
    exec (.keyModeChange true true) s = .next { s with lines := { s.lines with key1 := true, key0 := true } }

/-- R77, R155, R91, R109: every step keeps the overrides in their law, and the alert record and the accumulators
within their ranges where the waiting commands can occur. -/
def Obligations.StepsKeepOverrideAndRecord : Prop :=
  ∀ s t : State, step s = .next t →
    (OverrideLaw s → OverrideLaw t) ∧ (QueueLaw s → RecordLaw s → QueueLaw t ∧ RecordLaw t)

/-- R92: every step keeps the valves closed outside RUNNING and RESUMING in PIERCE and CUT. -/
def Obligations.StepsKeepValvesClosed : Prop := ∀ s t : State, step s = .next t → ValvesLaw s → ValvesLaw t

/-! ### The jet -/

/-- R99, R103, R104, R105: the ends of the pierce timer's runs and the tick of the ramp. STATIC: the T_low dwell's end
enters RAMP in step 4, the ramp's end enters CUT in step 5 with a settle timer, the T_dwell dwell's end names the Z
move to cut height in step 7. CREEP: the T_low dwell's end also makes the phase CUT and releases the path. R132, R2:
the ramp's end of a CREEP pierce completes it: the contour's pierce-complete flag is set, the pierce step is none, and
the path goes on, or a deferred REQUEST hold is taken at that instant. Timers without a clock are entry 20. -/
def Obligations.PierceTimers : Prop :=
  (∀ (m : MachineSetup) (r : Contour) (f : ProcessSet) (s : State), Live s → s.cyc.mstate = .running →
    s.cyc.phase = some .pierce → s.setups.setup = some m → s.activeContour = some r → s.activeSet = some f →
    (∀ ms, s.jet.state = .low → s.jet.pierceTimer = .tLow ms → 0 < f.tRamp → s.jet.demand = f.pPierce →
      (r.method = .static →
        exec .tLowDwellEnd s = .next { s with jet := { s.jet with
          state := .ramp, settle := .stopped, dip := .stopped, dipWatch := false, pierceStep := some 4
          pierceTimer := .ramp 0 f.tRamp } })
      ∧ (r.method = .creep →
        exec .tLowDwellEnd s = .next { s with
          cyc := { s.cyc with phase := some .cut }
          path := { s.path with motion := .run, dir := .forward }
          jet := { s.jet with
            state := .ramp, settle := .stopped, dip := .stopped, dipWatch := false, pierceStep := some 4
            pierceTimer := .ramp 0 f.tRamp } }))
    ∧ (∀ k ms, s.jet.state = .ramp → s.jet.pierceTimer = .ramp k ms → k < ms →
      ∃ t, exec .rampTick s = .next t ∧ t = { s with jet := { s.jet with
        pierceTimer := .ramp (k + 1) ms, bandIn := t.jet.bandIn
        demand := f.pPierce + (f.pCut - f.pPierce) * (k + 1) / f.tRamp } })
    ∧ (∀ k ms, s.jet.state = .ramp → s.jet.pierceTimer = .ramp k ms → r.method = .static →
      s.jet.demand = f.pCut → s.jet.bandIn = false →
      exec .rampEnd s = .next { s with jet := { s.jet with
        state := .cut, settle := .running m.settleLimit, dip := .stopped, dipWatch := false, pierceStep := some 5
        pierceTimer := .stopped } })
    ∧ ∀ ms, s.jet.pierceTimer = .tDwell ms → (r.method = .static ∨ r.method = .drilled) →
      s.axes.z.command ≠ min (r.surfaceZ.getD m.nominalSurface + f.hCut) m.axes.z.softMax →
      exec .tDwellEnd s = .next { s with
        jet := { s.jet with
          pierceTimer := .stopped, pierceStep := some (if r.method = .static then 7 else 4) }
        axes := { s.axes with z := { s.axes.z with speedSq := 0 } }
        zmotion := .moving (min (r.surfaceZ.getD m.nominalSurface + f.hCut) m.axes.z.softMax) .pierceStep })
  ∧ (∀ (k ms : Nat) (m : MachineSetup) (c : Fin Config.contours) (r : Contour) (f : ProcessSet) (s : State),
    Live s → s.cyc.mstate = .running → s.cyc.abortPending = false → s.cyc.phase = some .cut →
    s.setups.setup = some m → s.cyc.active = some c → s.contour? c = some r → r.method = .creep →
    s.activeSet = some f → s.jet.state = .ramp → s.jet.pierceTimer = .ramp k ms →
    s.jet.demand = f.pCut → s.jet.bandIn = false →
    (s.cyc.deferredHold = false →
      exec .rampEnd s = .next { s with
        prog := { s.prog with contours := s.prog.contours.set c (some { r with pierceComplete := true }) }
        path := { s.path with motion := .run, dir := .forward }
        jet := { s.jet with
          state := .cut, settle := .running m.settleLimit, dip := .stopped, dipWatch := false, pierceStep := none
          pierceTimer := .stopped } })
    ∧ (s.cyc.deferredHold = true →
      ∃ t, exec .rampEnd s = .next t
        ∧ HoldTaken .request {} { s with
            prog := { s.prog with contours := s.prog.contours.set c (some { r with pierceComplete := true }) } } t))

/-- R96, R97, R98, R100: ABRFLOW, the abrasive start delay, and a change of PFB with the jet closed or ramping, at a
band loss with the dip watch armed, and at a band entry while the dip timer runs. R104, R108: a band entry while the
settle timer runs stops it; in CUT and TAB it arms the dip watch, and in step 2 of a STATIC pierce it starts the T_low
dwell. Timers without a clock are entry 20, the abrasive watch entry 19. -/
def Obligations.JetSupervision : Prop :=
  (∀ (m : MachineSetup) (s : State), Live s → s.setups.setup = some m →
    (s.lines.abrflow = false →
      exec .abrflowAssert s = .next { s with
        lines := { s.lines with abrflow := true }, jet := { s.jet with abrasiveGrace := .stopped } })
    ∧ (s.lines.abrflow = true → s.jet.abrasiveWatch = true → 0 < m.abrasiveGrace →
      exec .abrflowNegate s = .next { s with
        lines := { s.lines with abrflow := false }
        jet := { s.jet with abrasiveGrace := .running m.abrasiveGrace } })
    ∧ (s.lines.abrflow = true → s.jet.abrasiveWatch = false →
      exec .abrflowNegate s = .next { s with lines := { s.lines with abrflow := false } })
    ∧ (∀ ms, s.jet.abrasiveDelay = .running ms → (s.lines.abrflow = true ∨ 0 < m.abrasiveGrace) →
      exec .abrasiveDelayExpiry s = .next { s with jet := { s.jet with
        abrasiveDelay := .stopped, abrasiveWatch := true
        abrasiveGrace := if s.lines.abrflow then s.jet.abrasiveGrace else .running m.abrasiveGrace } })
    ∧ (∀ v, (s.jet.state = .closed ∨ s.jet.state = .ramp) →
      exec (.pfbChange v) s = .next { s with
        lines := { s.lines with pfb := v }
        jet := { s.jet with bandIn := decide (absDiff v s.jet.demand ≤ m.pressureBand) } })
    ∧ (∀ v, (s.jet.state = .cut ∨ s.jet.state = .tab) → s.jet.bandIn = true → s.jet.dipWatch = true →
      m.pressureBand < absDiff v s.jet.demand →
      exec (.pfbChange v) s = .next { s with
        lines := { s.lines with pfb := v }
        jet := { s.jet with bandIn := false, dip := .running m.dipAllowance } })
    ∧ ∀ v, (s.jet.state = .cut ∨ s.jet.state = .tab) → s.jet.bandIn = false → s.jet.settle = .stopped →
      absDiff v s.jet.demand ≤ m.pressureBand →
      exec (.pfbChange v) s = .next { s with
        lines := { s.lines with pfb := v }, jet := { s.jet with bandIn := true, dip := .stopped } })
  ∧ (∀ (m : MachineSetup) (r : Contour) (f : ProcessSet) (v ms : Nat) (s : State), Live s →
    s.setups.setup = some m → s.activeContour = some r → s.activeSet = some f → s.cyc.mstate = .running →
    s.jet.bandIn = false → s.jet.settle = .running ms → absDiff v s.jet.demand ≤ m.pressureBand →
    ((s.jet.state = .cut ∨ s.jet.state = .tab) → s.jet.pierceStep = none →
      exec (.pfbChange v) s = .next { s with
        lines := { s.lines with pfb := v }
        jet := { s.jet with bandIn := true, settle := .stopped, dipWatch := true } })
    ∧ (s.jet.state = .low → r.method = .static → s.jet.pierceStep = some 2 → 0 < f.tLow →
      exec (.pfbChange v) s = .next { s with
        lines := { s.lines with pfb := v }
        jet := { s.jet with
          bandIn := true, settle := .stopped, dipWatch := false, pierceStep := some 3, pierceTimer := .tLow f.tLow } }))

/-- R109: jet time counts one millisecond while the valves are open, up to its end, and tests the limits; a limit
newly reached sets the cycle-stop flag and raises WEAR; with the jet CLOSED nothing counts. Jet time is tested first
(entry 33). -/
def Obligations.JetTimeCounts : Prop :=
  ∀ s : State, Live s →
    (s.jet.state = .closed → exec .jetTimeCount s = .next s)
    ∧ (s.jet.state ≠ .closed →
      ∃ t, exec .jetTimeCount s = .next t
        ∧ t = { s with
            alert := t.alert
            jet := { s.jet with jetTime := min 4294967295999 (s.jet.jetTime + 1)
                                wearJetTime := t.jet.wearJetTime, wearPierceCount := t.jet.wearPierceCount }
            cyc := { s.cyc with cycleStop := s.cyc.cycleStop
              || (t.jet.wearJetTime && !s.jet.wearJetTime) || (t.jet.wearPierceCount && !s.jet.wearPierceCount) } }
        ∧ (∀ m, s.setups.setup = some m →
          t.jet.wearJetTime = (m.jetTimeLimit != 0 && decide (m.jetTimeLimit ≤ t.jet.jetTime / 1000))
          ∧ t.jet.wearPierceCount = (m.pierceCountLimit != 0 && decide (m.pierceCountLimit ≤ s.jet.pierceCount)))
        ∧ (t.jet.wearJetTime = s.jet.wearJetTime → t.jet.wearPierceCount = s.jet.wearPierceCount →
          t.alert = s.alert)
        ∧ ∀ r, t.jet.wearJetTime = true → s.jet.wearJetTime = false → t.jet.wearPierceCount = s.jet.wearPierceCount →
          s.alert = some r → t.alert = some { r with further := min 255 (r.further + 1), latest := some .wear })

/-! ### The path -/

/-- R25, R74, R2, R34: the completion of the ACTIVE jet segment makes it RETAINED, raises the progress fields, tests
the window, and makes the next jet segment ACTIVE at distance 0, the hold's deceleration and the jet as they are; R108:
where a TAB is entered or left with the jet open, the jet enters its state with a new settle timer. That of the last
one begins RETRACT; that of a TRAVERSE releases it. R114, R115, R90: the completion of a contour's last TRAVERSE makes
the phase PROBE, and with surface mode PROBE and CONTACT negated the descent starts; with CONTACT asserted it is a
COLLISION; R116, R118, R24, R103: with surface mode CARRY the current surface is the contour's and the phase PIERCE,
with the first jet segment ACTIVE at distance 0 and the Z move of step 1 named. The jump of the axes to the named point
is entry 14, the probe target entry 21, the motion fields entry 19. -/
def Obligations.SegmentsComplete : Prop :=
  (∀ (m : MachineSetup) (c : Fin Config.contours) (r : Contour) (p : Pos) (g : Segment) (s : State), Live s →
    SequenceLaw s → s.setups.setup = some m → s.cyc.active = some c → s.contour? c = some r →
    s.path.cursor = some p → s.cursorSegment = some g → g.contour = c → g.state = .active →
    s.path.dir = .forward → s.path.motion ≠ .rest →
    (∀ h, g.cls.isJet = true → segmentAfter s g.seq = some h → h.state = .planned →
      h.cls ≠ .tab → s.jet.state ≠ .tab →
      let retained := (s.prog.segments.map fun x => if x.seq = g.seq then { x with state := .retained } else x).filter
        fun x => x.contour == c && x.state == .retained
      let gone := retained.take (retained.length - (windowKeeps m.backupReach retained).length)
      ∃ t, exec .segmentCompletion s = .next t
        ∧ t.contour? c = some { r with completed := r.completed + 1, lengthDone := r.lengthDone + g.len }
        ∧ t.path.cursor = some ⟨h.seq, 0⟩ ∧ t.path.motion = s.path.motion
        ∧ t.axes.x.command = (g.pointAt g.len).x ∧ t.axes.y.command = (g.pointAt g.len).y
        ∧ t.prog = { s.prog with
            contours := t.prog.contours
            segments := (s.prog.segments.filter fun x => !(gone.map (·.seq)).contains x.seq).map fun x =>
              if x.seq = g.seq then { x with state := .retained }
              else if x.seq = h.seq then { x with state := .active } else x }
        ∧ t.jet = s.jet ∧ t.cyc = s.cyc ∧ t.zmotion = s.zmotion ∧ t.axes.z = s.axes.z ∧ t.alert = s.alert)
    ∧ (∀ h f js pd, g.cls.isJet = true → segmentAfter s g.seq = some h → h.state = .planned → s.activeSet = some f →
      ((s.jet.state = .cut ∧ h.cls = .tab ∧ js = .tab ∧ pd = f.pTab)
        ∨ (s.jet.state = .tab ∧ h.cls ≠ .tab ∧ js = .cut ∧ pd = f.pCut)) →
      valvesAllowed s.cyc = true → pd ≠ s.jet.demand → m.pressureBand < absDiff s.lines.pfb pd →
      ∃ t, exec .segmentCompletion s = .next t
        ∧ t.contour? c = some { r with completed := r.completed + 1, lengthDone := r.lengthDone + g.len }
        ∧ t.path.cursor = some ⟨h.seq, 0⟩ ∧ t.path.motion = s.path.motion ∧ t.cyc = s.cyc
        ∧ t.jet = { s.jet with
            state := js, demand := pd, bandIn := false, settle := .running m.settleLimit, dip := .stopped
            dipWatch := false })
    ∧ (g.cls.isJet = true → segmentAfter s g.seq = none → s.cyc.mstate = .running → s.cyc.abortPending = false →
      s.axes.z.command ≠ m.zClearance →
      ∃ t, exec .segmentCompletion s = .next t ∧ t.cyc.phase = some .retract ∧ t.cyc.mstate = .running
        ∧ t.cyc.active = some c ∧ t.path.cursor = none ∧ t.path.speedSq = 0 ∧ t.jet.AtRest ∧ t.jet.demand = 0
        ∧ t.zmotion = .moving m.zClearance .retract
        ∧ t.contour? c = some { r with completed := r.completed + 1, lengthDone := r.lengthDone + g.len })
    ∧ (∀ h, g.cls = .traverse → (s.segmentsOf c).head? = some g → (s.segmentsOf c)[1]? = some h →
      h.cls = .traverse → s.cyc.mstate = .running → s.cyc.abortPending = false →
      ∃ t, exec .segmentCompletion s = .next t
        ∧ t.prog = { s.prog with segments := (s.prog.segments.filter fun x => x.seq != g.seq).map fun x =>
            if x.seq = h.seq then { x with state := .active } else x }
        ∧ t.path = { s.path with cursor := some ⟨h.seq, 0⟩, dir := .forward, speedSq := 0, motion := .run }
        ∧ t.axes.x.command = (g.pointAt g.len).x ∧ t.axes.y.command = (g.pointAt g.len).y ∧ t.cyc = s.cyc))
  ∧ (∀ (m : MachineSetup) (c : Fin Config.contours) (r : Contour) (p : Pos) (g : Segment) (s : State), Live s →
    SequenceLaw s → s.setups.setup = some m → s.cyc.active = some c → s.contour? c = some r →
    s.path.cursor = some p → s.cursorSegment = some g → g.contour = c → g.state = .active → g.cls = .traverse →
    s.path.dir = .forward → s.path.motion ≠ .rest → s.cyc.mstate = .running → s.cyc.abortPending = false →
    (s.segmentsOf c).head? = some g →
    ((∀ h, (s.segmentsOf c)[1]? = some h → h.cls ≠ .traverse) → r.surfaceMode = .probe → s.lines.contact = false →
      ∃ t, exec .segmentCompletion s = .next t ∧ t.cyc = { s.cyc with phase := some .probe }
        ∧ t.path.cursor = none ∧ t.path.speedSq = 0
        ∧ t.zmotion = .probing (max (s.axes.z.command - m.probeTravel) m.axes.z.softMin)
        ∧ t.prog = { s.prog with segments := s.prog.segments.filter fun x => x.seq != g.seq })
    ∧ ((∀ h, (s.segmentsOf c)[1]? = some h → h.cls ≠ .traverse) → r.surfaceMode = .probe → s.lines.contact = true →
      ∃ t, exec .segmentCompletion s = .next t ∧ t.cyc.mstate = .fault ∧ t.cyc.active = none
        ∧ t.contour? c = some { r with status := .abandoned, abandonReason := some .collision }
        ∧ (∀ x ∈ t.prog.segments, x.contour ≠ c) ∧ t.jet.AtRest)
    ∧ ∀ h f, (s.segmentsOf c)[1]? = some h → h.cls ≠ .traverse → r.surfaceMode = .carry → s.activeSet = some f →
      let height := min (s.cyc.surface.getD m.nominalSurface + (if r.method = .creep then f.hCut else f.hPierce))
        m.axes.z.softMax
      s.axes.z.command ≠ height →
      ∃ t, exec .segmentCompletion s = .next t ∧ t.cyc = { s.cyc with phase := some .pierce }
        ∧ t.contour? c = some { r with surfaceZ := s.cyc.surface }
        ∧ t.prog.segments = ((s.prog.segments.filter fun x => x.seq != g.seq).map fun x =>
            if x.seq = h.seq then { x with state := .active } else x)
        ∧ t.path = { s.path with cursor := some ⟨h.seq, 0⟩, speedSq := 0, motion := .rest }
        ∧ t.jet = { s.jet.shut t.jet.bandIn with demand := f.pPierce, pierceStep := some 1 }
        ∧ t.axes.x.command = (h.pointAt 0).x ∧ t.axes.y.command = (h.pointAt 0).y
        ∧ t.zmotion = .moving height .pierceStep)

/-- R26, R75, R108: a cursor in REVERSE passes to the end of the previous segment, and a cursor FORWARD on a RETAINED
segment to the start of the next; no segment state, count or slot changes. The jump of the axes to the named point is
entry 14. -/
def Obligations.BoundariesPass : Prop :=
  ∀ (m : MachineSetup) (p : Pos) (g h : Segment) (s : State), Live s → s.setups.setup = some m →
    s.path.cursor = some p → s.cursorSegment = some g → s.path.motion ≠ .rest → s.segment? h.seq = some h →
    (s.path.dir = .reverse → segmentBefore s g.seq = some h →
      ∃ t, exec .segmentBoundaryPassed s = .next t ∧ t.path.cursor = some ⟨h.seq, h.len⟩ ∧ t.prog = s.prog
        ∧ t.cyc = s.cyc ∧ t.jet = s.jet ∧ t.path.dir = .reverse
        ∧ t.axes.x.command = (h.pointAt h.len).x ∧ t.axes.y.command = (h.pointAt h.len).y)
    ∧ (s.path.dir = .forward → g.state = .retained → segmentAfter s g.seq = some h →
      (s.jet.state = .closed ∨ (s.jet.state = .cut ∧ h.cls ≠ .tab) ∨ (s.jet.state = .tab ∧ h.cls = .tab)) →
      ∃ t, exec .segmentBoundaryPassed s = .next t ∧ t.path.cursor = some ⟨h.seq, 0⟩ ∧ t.prog = s.prog
        ∧ t.cyc = s.cyc ∧ t.jet = s.jet ∧ t.path.dir = .forward)
    ∧ (s.path.dir = .forward → g.state = .retained → segmentAfter s g.seq = some h → valvesAllowed s.cyc = true →
      ∀ f js pd, s.activeSet = some f →
      ((s.jet.state = .cut ∧ h.cls = .tab ∧ js = .tab ∧ pd = f.pTab)
        ∨ (s.jet.state = .tab ∧ h.cls ≠ .tab ∧ js = .cut ∧ pd = f.pCut)) →
      pd ≠ s.jet.demand → m.pressureBand < absDiff s.lines.pfb pd →
      ∃ t, exec .segmentBoundaryPassed s = .next t ∧ t.path.cursor = some ⟨h.seq, 0⟩ ∧ t.prog = s.prog
        ∧ t.cyc = s.cyc
        ∧ t.jet = { s.jet with
            state := js, demand := pd, bandIn := false, settle := .running m.settleLimit, dip := .stopped
            dipWatch := false })

/-- R141, R142, R143, R144, R94: the BACKUP target is reached and KERF_START opens the jet in CUT without counting a
pierce; R139: with the pierce incomplete the pierce runs again from its step 1, the hold record cleared; R105: a CREEP
pierce that finds Z at cut height passes step 1 at once and opens the jet in LOW in step 2, or takes a PUMP hold with
PUMPRDY negated. The T_rejoin dwell's end begins REJOIN; the passing of the jet-close point ends it in RUNNING CUT. The
jump to the named point is entry 14. -/
def Obligations.KerfStartAndRejoin : Prop :=
  (∀ (m : MachineSetup) (r : Contour) (f : ProcessSet) (h : HoldRecord) (target : Pos) (s : State), Live s →
    s.cyc.mstate = .resuming → s.cyc.phase = some .cut → s.cyc.abortPending = false → s.cyc.hold = some h →
    h.step = some .backup → h.rejoin = some target → s.path.motion = .run → s.setups.setup = some m →
    s.activeContour = some r → r.pierceComplete = true → s.activeSet = some f → s.jet.AtRest → s.jet.demand = 0 →
    s.lines.pumprdy = true → f.pCut ≠ 0 → m.pressureBand < absDiff s.lines.pfb f.pCut → 0 < m.abrasiveDelay →
    ∃ t, exec .backupTargetReached s = .next t
      ∧ t.path = { s.path with cursor := some target, speedSq := 0, motion := .rest }
      ∧ t.cyc = { s.cyc with hold := some { h with step := some .kerfStart } }
      ∧ t.jet = { s.jet with
          state := .cut, demand := f.pCut, bandIn := false, settle := .running m.settleLimit
          abrasiveDelay := .running m.abrasiveDelay }
      ∧ t.prog = s.prog ∧ t.alert = s.alert)
  ∧ (∀ (m : MachineSetup) (r : Contour) (f : ProcessSet) (h : HoldRecord) (target : Pos) (s : State), Live s →
    s.cyc.mstate = .resuming → s.cyc.phase = some .cut → s.cyc.abortPending = false → s.cyc.hold = some h →
    h.step = some .backup → h.rejoin = some target → s.path.motion = .run → s.setups.setup = some m →
    s.activeContour = some r → r.pierceComplete = false → s.activeSet = some f → s.jet.AtRest →
    let height := min (r.surfaceZ.getD m.nominalSurface + (if r.method = .creep then f.hCut else f.hPierce))
      m.axes.z.softMax
    s.axes.z.command ≠ height →
    ∃ t, exec .backupTargetReached s = .next t
      ∧ t = { s with
          path := { s.path with cursor := some target, speedSq := 0, motion := .rest }
          cyc := { s.cyc with mstate := .running, phase := some .pierce, hold := none }
          jet := { s.jet with demand := f.pPierce, bandIn := t.jet.bandIn, pierceStep := some 1 }
          axes := t.axes
          zmotion := .moving height .pierceStep }
      ∧ t.axes.z = { s.axes.z with speedSq := 0 })
  ∧ (∀ (m : MachineSetup) (r : Contour) (f : ProcessSet) (h : HoldRecord) (target : Pos) (s : State), Live s →
    s.cyc.mstate = .resuming → s.cyc.phase = some .cut → s.cyc.abortPending = false → s.cyc.suspension = false →
    s.cyc.hold = some h → h.step = some .backup → h.rejoin = some target → s.path.motion = .run →
    s.setups.setup = some m → s.activeContour = some r → r.pierceComplete = false → r.method = .creep →
    s.activeSet = some f → s.jet.AtRest → s.jet.demand = 0 → f.pPierce ≠ 0 →
    s.axes.z.command = min (r.surfaceZ.getD m.nominalSurface + f.hCut) m.axes.z.softMax →
    let begun : PerAxis Channel → State := fun x => { s with
      path := { s.path with cursor := some target, speedSq := 0, motion := .rest }
      cyc := { s.cyc with mstate := .running, phase := some .pierce, hold := none }
      jet := { s.jet with demand := f.pPierce, pierceStep := some 2 }
      axes := x }
    (s.lines.pumprdy = true → m.pressureBand < absDiff s.lines.pfb f.pPierce → m.pierceCountLimit = 0 →
      m.jetTimeLimit = 0 → 0 < m.abrasiveDelay →
      ∃ t, exec .backupTargetReached s = .next t ∧ t.axes.z = s.axes.z
        ∧ t = { begun t.axes with jet := { (begun t.axes).jet with
            state := .low, bandIn := false, settle := .running m.settleLimit
            abrasiveDelay := .running m.abrasiveDelay, pierceCount := min 4294967295 (s.jet.pierceCount + 1)
            wearJetTime := false, wearPierceCount := false } })
    ∧ (s.lines.pumprdy = false →
      ∃ t, exec .backupTargetReached s = .next t ∧ t.axes.z = s.axes.z
        ∧ HoldTaken .pump { jetState := some .closed, demand := some f.pPierce } (begun t.axes) t))
  ∧ (∀ (h : HoldRecord) (ms : Nat) (g : Segment) (s : State), Live s → s.cyc.hold = some h →
    s.jet.pierceTimer = .tRejoin ms → s.cursorSegment = some g → g.cls ≠ .tab → s.jet.state = .cut →
    exec .tRejoinDwellEnd s = .next { s with
      cyc := { s.cyc with hold := some { h with step := some .rejoin } }
      jet := { s.jet with pierceTimer := .stopped }
      path := { s.path with speedSq := 0, motion := .run, dir := .forward } })
  ∧ ∀ (m : MachineSetup) (h : HoldRecord) (jc p : Pos) (g : Segment) (s : State), Live s →
    s.cyc.mstate = .resuming → s.cyc.phase = some .cut → s.cyc.abortPending = false → s.cyc.hold = some h →
    h.step = some .rejoin → h.jetClose = some jc → s.path.motion = .run → s.setups.setup = some m →
    s.path.cursor = some p → s.cursorSegment = some g → jc.behind p = true → s.jet.demand = demandOf s →
    exec .jetClosePointPassed s = .next { s with cyc := { s.cyc with mstate := .running, hold := none } }

/-- R79, R89, R134, R135, R124: rest in HOLDING makes the state HELD with the stop point; rest with an ABORT pending
abandons the contour and ends in IDLE; while Z or the path still moves, the state stays. A last micrometre that the
speed still covers and that brings no pulse belongs to the stop (entry 15). The motion fields are entry 19. -/
def Obligations.RestReports : Prop :=
  ∀ s : State, Live s →
    let spent : Prop := ∀ m, s.setups.setup = some m → s.path.speedSq < 2 * m.accelHold
    (s.path.motion = .decel → spent → s.zmotion = .rest → s.cyc.abortPending = false → s.cyc.mstate = .holding →
      ∀ h, s.cyc.hold = some h →
      ∃ t, exec .pathAtRest s = .next t
        ∧ t = { s with
            path := { s.path with speedSq := 0, motion := .rest }, jet := s.jet.shut t.jet.bandIn
            cyc := { s.cyc with mstate := .held, hold := some { h with stop := stopPoint s } } })
    ∧ (∀ m p g, s.path.motion = .decel → s.setups.setup = some m → s.path.cursor = some p → s.cursorSegment = some g →
      g.seq = p.seq → s.path.dir = .forward → p.dist < g.len → rejoining s = false →
      2 * m.accelHold ≤ s.path.speedSq → s.path.speedSq < 4 * m.accelHold →
      (g.pointAt (p.dist + 1)).x = s.axes.x.command → (g.pointAt (p.dist + 1)).y = s.axes.y.command →
      s.zmotion ≠ .rest →
      exec .pathAtRest s = .next { s with
        path := { s.path with cursor := some ⟨p.seq, p.dist + 1⟩, speedSq := 0, motion := .rest } })
    ∧ (s.path.motion = .decel → spent → s.zmotion ≠ .rest →
      exec .pathAtRest s = .next { s with path := { s.path with speedSq := 0, motion := .rest } })
    ∧ (∀ c r, s.path.motion = .decel → spent → s.zmotion = .rest → s.cyc.abortPending = true → s.cyc.active = some c →
      s.contour? c = some r →
      ∃ t, exec .pathAtRest s = .next t ∧ t.cyc.mstate = .idle ∧ t.cyc.phase = none ∧ t.cyc.hold = none
        ∧ t.cyc.active = none ∧ t.cyc.abortPending = false ∧ t.path.cursor = none ∧ t.prog = programAbandoned .abort s
        ∧ t.contour? c = some { r with status := .abandoned, abandonReason := some .abort } ∧ t.jet.AtRest)
    ∧ (∀ z, (s.zmotion = .stopMove z ∨ s.zmotion = .stopProbe) → s.path.motion = .rest →
      s.cyc.abortPending = false → s.cyc.mstate = .holding → ∀ h, s.cyc.hold = some h →
      ∃ t, exec .zAtRest s = .next t
        ∧ t = { s with
            zmotion := .rest, axes := { s.axes with z := { s.axes.z with speedSq := 0 } }
            jet := s.jet.shut t.jet.bandIn
            cyc := { s.cyc with mstate := .held, hold := some { h with stop := stopPoint s } } })

/-- R89, R22, R24, R94, R103 to R106, R11, R13, R120, R138: what a completed Z move begins, with the collision
suspension off: the first TRAVERSE in APPROACH; the opening of the jet in step 1 of a pierce, LOW in STATIC and CREEP,
CUT in DRILLED; pierce complete in step 7 of STATIC and step 4 of DRILLED, with a deferred REQUEST hold taken then
(R132); the descent of a resumed PROBE, or its COLLISION (R115, R121); the contour's end in RETRACT. The jump of Z to
its target is entry 14, the motion fields entry 19, the probe target entry 21. -/
def Obligations.ZMovesComplete : Prop :=
  ∀ (m : MachineSetup) (c : Fin Config.contours) (r : Contour) (z : Int) (s : State), Live s →
    s.setups.setup = some m → s.cyc.mstate = .running → s.cyc.abortPending = false → s.cyc.suspension = false →
    s.cyc.active = some c → s.contour? c = some r →
    let moved : Channel := { s.axes.z.jump z with speedSq := 0 }
    let struck : State := { s with axes := { s.axes with z := moved }, zmotion := .rest }
    (∀ g, s.zmotion = .moving z .approach → (s.segmentsOf c).head? = some g → g.cls = .traverse →
      g.state = .planned → g.start = none →
      let d : Point := g.finish.sub ⟨s.axes.x.command, s.axes.y.command⟩
      d.norm ≠ 0 →
      exec .zMoveComplete s = .next { s with
        axes := { s.axes with z := moved }, zmotion := .rest
        path := { s.path with cursor := some ⟨g.seq, 0⟩, dir := .forward, speedSq := 0, motion := .run }
        prog := { s.prog with segments := s.prog.segments.map fun x =>
          if x.seq = g.seq then
            { x.startAt ⟨s.axes.x.command, s.axes.y.command⟩ with state := .active } else x } })
    ∧ (∀ f js pd, s.zmotion = .moving z .pierceStep → s.cyc.phase = some .pierce → s.jet.pierceStep = some 1 →
      s.activeSet = some f → s.jet.state = .closed → s.lines.pumprdy = true → s.jet.bandIn = false →
      (((r.method = .static ∨ r.method = .creep) ∧ js = .low ∧ pd = f.pPierce)
        ∨ (r.method = .drilled ∧ js = .cut ∧ pd = f.pCut)) →
      m.pressureBand < absDiff s.lines.pfb pd → m.pierceCountLimit = 0 → m.jetTimeLimit = 0 → 0 < m.abrasiveDelay →
      exec .zMoveComplete s = .next { s with
        axes := { s.axes with z := moved }, zmotion := .rest
        jet := { s.jet with
          state := js, demand := pd, settle := .running m.settleLimit, dip := .stopped, dipWatch := false
          pierceStep := some 2, abrasiveDelay := .running m.abrasiveDelay
          pierceCount := min 4294967295 (s.jet.pierceCount + 1), wearJetTime := false, wearPierceCount := false } })
    ∧ (∀ f, s.zmotion = .moving z .pierceStep → s.cyc.phase = some .pierce →
      ((r.method = .static ∧ s.jet.pierceStep = some 7) ∨ (r.method = .drilled ∧ s.jet.pierceStep = some 4)) →
      s.activeSet = some f → s.jet.state = .cut → s.jet.demand = f.pCut →
      let done : State := { struck with
        prog := { s.prog with contours := s.prog.contours.set c (some { r with pierceComplete := true }) }
        jet := { s.jet with pierceStep := none }
        cyc := { s.cyc with phase := some .cut } }
      (s.cyc.deferredHold = false →
        exec .zMoveComplete s = .next { done with path := { s.path with motion := .run, dir := .forward } })
      ∧ (s.cyc.deferredHold = true → ∃ t, exec .zMoveComplete s = .next t ∧ HoldTaken .request {} done t))
    ∧ (s.zmotion = .moving z .reprobe →
      (s.lines.contact = false →
        exec .zMoveComplete s = .next { s with
          axes := { s.axes with z := moved }, zmotion := .probing (max (z - m.probeTravel) m.axes.z.softMin) })
      ∧ (s.lines.contact = true → ∃ t, exec .zMoveComplete s = .next t ∧ FaultTaken .collision struck t))
    ∧ (s.zmotion = .moving z .retract → s.cyc.phase = some .retract → s.prog.runList = [] → s.loading = none →
      r.status = .active →
      ∃ t, exec .zMoveComplete s = .next t
        ∧ t.contour? c = some { r with status := .done } ∧ (∀ x ∈ t.prog.segments, x.contour ≠ c)
        ∧ t.cyc.mstate = .idle ∧ t.cyc.phase = none ∧ t.cyc.active = none ∧ t.axes.z = moved)

/-- R86, R90, R115, R122: CONTACT in the probe descent captures the latch, writes the surface and turns the suspension
on; Z then rests and rises to pierce height. The rise completed with CONTACT still asserted is a COLLISION; with CONTACT
negated it makes the phase PIERCE with the first jet segment ACTIVE and the cursor at distance 0 (R118, R24, R103): in
CREEP the Z move of step 1 is named, and in STATIC and DRILLED, at pierce height already, the jet opens. The jump of Z
is entry 14, the motion fields entry 19. -/
def Obligations.ProbeContact : Prop :=
  ∀ (m : MachineSetup) (c : Fin Config.contours) (r : Contour) (f : ProcessSet) (z : Int) (s : State), Live s →
    s.setups.setup = some m → s.cyc.active = some c → s.contour? c = some r → s.activeSet = some f →
    (s.zmotion = .probing z → s.lines.contact = false →
      exec .contactAssert s = .next { s with
        lines := { s.lines with contact := true }, zmotion := .contactStop
        axes := { s.axes with z := { s.axes.z with latch := some s.axes.z.encoder } }
        cyc := { s.cyc with surface := some s.axes.z.encoder, suspension := true }
        prog := { s.prog with
          contours := s.prog.contours.set c (some { r with surfaceZ := some s.axes.z.encoder }) } })
    ∧ exec .contactNegate s = .next { s with
        lines := { s.lines with contact := false }, cyc := { s.cyc with suspension := false } }
    ∧ (s.zmotion = .contactStop → s.cyc.mstate = .running → s.cyc.abortPending = false →
      s.axes.z.command ≠ min (r.surfaceZ.getD m.nominalSurface + f.hPierce) m.axes.z.softMax →
      exec .zAtRest s = .next { s with
        axes := { s.axes with z := { s.axes.z with speedSq := 0 } }
        zmotion := .moving (min (r.surfaceZ.getD m.nominalSurface + f.hPierce) m.axes.z.softMax) .pierceRise })
    ∧ (s.zmotion = .moving z .pierceRise → s.cyc.mstate = .running → s.cyc.suspension = true →
      s.lines.contact = true →
      ∃ t, exec .zMoveComplete s = .next t ∧ t.cyc.mstate = .fault
        ∧ t.contour? c = some { r with status := .abandoned, abandonReason := some .collision })
    ∧ ∀ g, s.zmotion = .moving z .pierceRise → s.cyc.mstate = .running → s.cyc.abortPending = false →
      s.lines.contact = false → s.activeJets.head? = some g → s.jet.state = .closed → s.jet.demand = f.pPierce →
      let shape : State → Prop := fun t => exec .zMoveComplete s = .next t
        ∧ t.cyc = { s.cyc with phase := some .pierce, suspension := false }
        ∧ t.path = { s.path with cursor := some ⟨g.seq, 0⟩, speedSq := 0, motion := .rest }
        ∧ t.prog = { s.prog with segments := s.prog.segments.map fun x =>
            if x.seq = g.seq then { x with state := .active } else x }
        ∧ t.axes.z = { s.axes.z.jump z with speedSq := 0 }
      let cut := min (r.surfaceZ.getD m.nominalSurface + f.hCut) m.axes.z.softMax
      (r.method = .creep → z ≠ cut →
        ∃ t, shape t ∧ t.jet = { s.jet with pierceStep := some 1 } ∧ t.zmotion = .moving cut .pierceStep)
      ∧ ∀ js pd, ((r.method = .static ∧ js = .low ∧ pd = f.pPierce) ∨ (r.method = .drilled ∧ js = .cut ∧ pd = f.pCut)) →
        z = min (r.surfaceZ.getD m.nominalSurface + f.hPierce) m.axes.z.softMax → s.lines.pumprdy = true →
        s.jet.bandIn = false → m.pressureBand < absDiff s.lines.pfb pd → m.pierceCountLimit = 0 →
        m.jetTimeLimit = 0 → 0 < m.abrasiveDelay →
        ∃ t, shape t ∧ t.zmotion = .rest
          ∧ t.jet = { s.jet with
              state := js, demand := pd, settle := .running m.settleLimit, dip := .stopped, dipWatch := false
              pierceStep := some 2, abrasiveDelay := .running m.abrasiveDelay
              pierceCount := min 4294967295 (s.jet.pierceCount + 1), wearJetTime := false, wearPierceCount := false }

/-- R82, R85, R89, R72: a step pulse moves its own axis by at most a micrometre, and no other axis, save where it ends
in FAULT. With its deviation within the limit: one micrometre of a Z move toward its target; of X or Y to the point of
the cursor, where the cursor has stood or has just come a micrometre FORWARD on a LINE or ARC, and none where the other
axis's pulse is due first; of a homing axis in SEEK; none in IDLE and UNCONFIGURED. R81, R84, R85: an encoder count
moves the encoder counter by one in the sense that encoder reverse gives; the command follows it in FAULT and
UNCONFIGURED, and holds elsewhere while the deviation is within the following limit. Whose pulse is due is entry 15, the
bounds of a pulse entry 16, the speeds entries 17 and 18. -/
def Obligations.AxisCounters : Prop :=
  (∀ (m : MachineSetup) (s : State), Live s → s.setups.setup = some m →
    (∀ a, (s.cyc.mstate = .idle ∨ s.cyc.mstate = .unconfigured) → exec (.stepPulse a) s = .next s)
    ∧ (∀ t0 purpose, s.cyc.mstate.inCycle = true → s.zmotion = .moving t0 purpose → s.axes.z.command ≠ t0 →
      let next := if s.axes.z.command < t0 then s.axes.z.command + 1 else s.axes.z.command - 1
      (next - s.axes.z.encoder).natAbs ≤ m.axes.z.followingLimit →
      ∃ t v, exec (.stepPulse .z) s = .next t
        ∧ t = { s with axes := { s.axes with z := { s.axes.z with
            command := next, dir := if s.axes.z.command < t0 then .pos else .neg, speedSq := v } } })
    ∧ (∀ (a : Axis) p g, a ≠ .z → s.cyc.mstate = .running → s.path.cursor = some p → s.cursorSegment = some g →
      let here := g.pointAt p.dist
      let next : Int → Int := fun q => if (s.chan a).command < q then (s.chan a).command + 1 else (s.chan a).command - 1
      let side : Int → Side := fun q => if (s.chan a).command < q then .pos else .neg
      ((s.chan a).command ≠ here.along a →
        (next (here.along a) - (s.chan a).encoder).natAbs ≤ (m.axes.get a).followingLimit →
        exec (.stepPulse a) s = .next (s.onAxis a fun c =>
          { c with command := next (here.along a), dir := side (here.along a) }))
      ∧ ((s.chan a).command = here.along a → (s.chan (acrossAxis a)).command ≠ here.along (acrossAxis a) →
        (s.chan a).deviation.natAbs ≤ (m.axes.get a).followingLimit → exec (.stepPulse a) s = .next s)
      ∧ (g.seq = p.seq → s.path.dir = .forward → s.path.motion = .run → p.dist < g.len →
        (g.cls = .traverse ∨ ∃ pl, g.plan = some pl ∧ 0 < pl.cruise * s.path.override / 100) →
        s.axes.x.command = here.x → s.axes.y.command = here.y →
        let q := (g.pointAt (p.dist + 1)).along a
        (s.chan a).command ≠ q → (next q - (s.chan a).encoder).natAbs ≤ (m.axes.get a).followingLimit →
        ∃ v, exec (.stepPulse a) s = .next { (s.onAxis a fun c => { c with command := next q, dir := side q }) with
              path := { s.path with cursor := some ⟨p.seq, p.dist + 1⟩, speedSq := v } }
          ∧ ∀ pl, g.cls ≠ .traverse → g.plan = some pl →
              isqrt v ≤ envelope m.accel pl g.len (p.dist + 1) * s.path.override / 100))
    ∧ ∀ a, s.cyc.mstate = .homing → s.homing.axis = some a → s.homing.step = some .seek → s.homing.stop = .none →
      s.homing.travel < seekLimit (m.axes.get a) →
      let next := if (m.axes.get a).homeDirection = 0 then (s.chan a).command - 1 else (s.chan a).command + 1
      (next - (s.chan a).encoder).natAbs ≤ (m.axes.get a).followingLimit →
      ∃ t, exec (.stepPulse a) s = .next t ∧ (t.chan a).command = next ∧ (t.chan a).encoder = (s.chan a).encoder
        ∧ t.homing = { s.homing with travel := s.homing.travel + 1 } ∧ ∀ b, b ≠ a → t.chan b = s.chan b)
  ∧ (∀ (a : Axis) (s t : State), exec (.stepPulse a) s = .next t → t.cyc.mstate = s.cyc.mstate →
    (∀ b, b ≠ a → t.chan b = s.chan b) ∧ (t.chan a).encoder = (s.chan a).encoder
      ∧ ((t.chan a).command - (s.chan a).command).natAbs ≤ 1)
  ∧ (∀ (a : Axis) (up : Bool) (s : State), Live s →
    let d : Int := match s.setups.setup with
      | none => if up then 1 else -1
      | some m => if up = ((m.axes.get a).encoderReverse == 0) then 1 else -1
    ((s.cyc.mstate = .fault ∨ s.cyc.mstate = .unconfigured) → s.jog.axis ≠ some a →
      exec (.encoderCount a up) s = .next (s.onAxis a fun x =>
        { x with encoder := x.encoder + d, command := x.encoder + d }))
    ∧ ∀ m, s.setups.setup = some m → s.cyc.mstate ≠ .fault → s.cyc.mstate ≠ .unconfigured →
      ((s.chan a).command - ((s.chan a).encoder + d)).natAbs ≤ (m.axes.get a).followingLimit →
      exec (.encoderCount a up) s = .next (s.onAxis a fun x => { x with encoder := x.encoder + d }))

/-! ### Homing and jogging -/

/-- R160, R161, R162: HOME by axis and HOME ALL, with its refusals; the HOME edge in SEEK redefines the axis and
begins SETTLE; HOME negating in CLEAR begins the deceleration, whose rest begins SEEK; other edges change the line
alone. That the seek travel of CLEAR counts on in SEEK is entry 25, the axis speed and the homing stop are entries 18
and 19. -/
def Obligations.HomingBegins : Prop :=
  (∀ (tag : Byte) (code : Nat) (a : Axis) (rest : List Axis) (s : State), Takes s .pendant (.home code) →
    s.cyc.mstate = .idle →
    ((code = axisNumber a ∧ rest = []) ∨ (code = 3 ∧ a = .z ∧ rest = [.x, .y])) →
    ∃ t, exec (.home .pendant tag code) s = .next (sendReply .pendant tag .ok [] t)
      ∧ t = { frameEnded .pendant s with
          jet := s.jet.shut t.jet.bandIn
          cyc := { s.cyc with mstate := .homing, phase := none }
          homing :=
            { axis := some a, step := some (if s.lines.homes.get a then .clear else .seek), remaining := rest
              travel := 0, stop := .none }
          axes := s.axes.set a { s.chan a with homed := false, speedSq := 0 } })
  ∧ (∀ (tag : Byte) (code : Nat) (s : State), Takes s .pendant (.home code) →
    (s.cyc.mstate ≠ .idle →
      exec (.home .pendant tag code) s = .next (sendReply .pendant tag .wrongState [] (frameEnded .pendant s)))
    ∧ (s.cyc.mstate = .idle → 4 ≤ code →
      exec (.home .pendant tag code) s = .next (sendReply .pendant tag .range (num1 0) (frameEnded .pendant s))))
  ∧ ∀ (a : Axis) (s : State), Live s →
    let asserted : Lines := { s.lines with homes := s.lines.homes.set a true }
    let negated : Lines := { s.lines with homes := s.lines.homes.set a false }
    (∀ m, s.setups.setup = some m → s.homing.axis = some a → s.homing.step = some .seek → s.homing.stop = .none →
      s.lines.homes.get a = false →
      let home := (m.axes.get a).homePosition
      exec (.homeInputAssert a) s = .next { s with
        lines := asserted
        axes := s.axes.set a { s.chan a with
          command := (s.chan a).command + (home - (s.chan a).encoder), encoder := home, latch := some home }
        homing := { s.homing with step := some .settle } })
    ∧ ((s.homing.axis ≠ some a ∨ s.homing.step ≠ some .seek ∨ s.homing.stop ≠ .none ∨ s.lines.homes.get a = true) →
      exec (.homeInputAssert a) s = .next { s with lines := asserted })
    ∧ (∀ m, s.setups.setup = some m → s.homing.axis = some a → s.homing.step = some .clear → s.homing.stop = .none →
      s.lines.homes.get a = true →
      exec (.homeInputNegate a) s = .next { s with lines := negated, homing := { s.homing with stop := .clearing } })
    ∧ ((s.homing.axis ≠ some a ∨ s.homing.step ≠ some .clear ∨ s.homing.stop ≠ .none ∨ s.lines.homes.get a = false) →
      exec (.homeInputNegate a) s = .next { s with lines := negated })
    ∧ ∀ m, s.setups.setup = some m → s.homing.axis = some a → s.homing.step = some .clear → s.homing.stop = .clearing →
      exec .homingClearAtRest s = .next { s with
        axes := s.axes.set a { s.chan a with speedSq := 0 }
        homing := { s.homing with step := some .seek, stop := .none } }

/-- R163, R164, R165: the rest in SETTLE homes the axis inside its window and begins RETURN beyond an edge; the rest of
RETURN stands at the edge, homed; then the next axis begins, or the state becomes IDLE. The seek travel limit raises
HOME_FAILED and, as an ABORT and a change of the key into PRODUCTION do, lets the axis come to rest unhomed, after
which the state becomes IDLE; that no item of homing is left then, the seek travel among them, is entry 43. The jumps to
named points are entry 14, the edge of RETURN entry 39, the homing stop entry 19. -/
def Obligations.HomingEnds : Prop :=
  ∀ (m : MachineSetup) (a : Axis) (s : State), Live s → s.setups.setup = some m → s.homing.axis = some a →
    let x := m.axes.get a
    let p := (s.chan a).command
    let ended : CycleController := { s.cyc with mstate := .idle, phase := none }
    (s.homing.step = some .settle → s.homing.stop = .none → x.softMin ≤ p → p ≤ x.softMax →
      (s.homing.remaining = [] →
        ∃ t, exec .homingSettleAtRest s = .next t
          ∧ t = { s with
              jet := s.jet.shut t.jet.bandIn, cyc := ended, homing := .reset
              axes := s.axes.set a { s.chan a with homed := true, speedSq := 0 } })
      ∧ ∀ b rest, s.homing.remaining = b :: rest → b ≠ a →
        exec .homingSettleAtRest s = .next { s with
          homing :=
            { axis := some b, step := some (if s.lines.homes.get b then .clear else .seek), remaining := rest
              travel := 0, stop := .none }
          axes := (s.axes.set a { s.chan a with homed := true, speedSq := 0 }).set b
            { s.chan b with homed := false, speedSq := 0 } })
    ∧ (s.homing.step = some .settle → s.homing.stop = .none → (p < x.softMin ∨ x.softMax < p) →
      exec .homingSettleAtRest s = .next { s with
        axes := s.axes.set a { s.chan a with speedSq := 0 }, homing := { s.homing with step := some .ret } })
    ∧ (∀ edge, s.homing.step = some .ret → s.homing.stop = .none →
      ((p < x.softMin ∧ edge = x.softMin) ∨ (x.softMin ≤ p ∧ x.softMax < p ∧ edge = x.softMax)) →
      s.homing.remaining = [] →
      ∃ t, exec .homingReturnAtRest s = .next t
        ∧ t = { s with
            jet := s.jet.shut t.jet.bandIn, cyc := ended, homing := .reset
            axes := s.axes.set a { s.chan a with
              command := edge, encoder := (s.chan a).encoder + (edge - p), speedSq := 0, homed := true
              dir := if p < edge then .pos else .neg } })
    ∧ ((s.homing.step = some .clear ∨ s.homing.step = some .seek) → s.homing.stop ≠ .givenUp →
      s.homing.travel ≤ seekLimit x →
      ∃ t, exec .seekTravelLimit s = .next t
        ∧ t = { s with
            homing := { s.homing with travel := seekLimit x, remaining := [], stop := .givenUp }
            alert := some (recordAlert .homeFailed { axis := some a } ⟨s.cyc.active, s.path.cursor, s.cyc.mstate⟩ s.alert)
            axes := s.axes.set a (t.chan a) }
        ∧ ((t.chan a).command - p).natAbs = seekLimit x - s.homing.travel
        ∧ (t.chan a).homed = (s.chan a).homed ∧ (t.chan a).latch = (s.chan a).latch)
    ∧ (s.cyc.mstate = .homing → ∀ port tag, Ready s port →
      exec (.abort port tag) s = .next (sendReply port tag .ok [] { frameEnded port s with
        homing := { s.homing with remaining := [], stop := .givenUp } }))
    ∧ (s.cyc.mstate = .homing → s.ports.keyMode ≠ .production → s.path.cursor = none →
      exec (.keyModeChange false false) s = .next { s with
        lines := { s.lines with key1 := false, key0 := false }, ports := { s.ports with keyMode := .production }
        path := { s.path with override := s.cyc.reqOverride }
        homing := { s.homing with remaining := [], stop := .givenUp } })
    ∧ (s.homing.stop = .givenUp →
      ∃ t, exec .homingStoppedAtRest s = .next t
        ∧ t = { s with
            jet := s.jet.shut t.jet.bandIn, cyc := ended, homing := .reset
            axes := s.axes.set a { s.chan a with speedSq := 0 } })

/-- R87, R163: no command homes an axis but the rest of SETTLE and the rest of RETURN. -/
def Obligations.OnlyHomingHomes : Prop :=
  ∀ (c : Instr) (a : Axis) (s t : State), exec c s = .next t → c ≠ .homingSettleAtRest → c ≠ .homingReturnAtRest →
    (s.chan a).homed = false → (t.chan a).homed = false

/-- R166, R167, R168, R169, R170, R153: what JOG and JOG_STEP start in IDLE, what they replace in JOGGING and what an
escape jog starts in FAULT; a homed axis at the limit ahead does not move. A JOG_STEP that finds its axis moving first
decelerates at the axis acceleration. Their refusals. The axis speed is entry 18, the field that says that the axis
first decelerates entry 44. -/
def Obligations.JogsStart : Prop :=
  ∀ (tag : Byte) (a : Axis) (d : Side) (fast : Bool) (m : MachineSetup) (s : State),
    let speed := if fast then 1 else 0
    let code := axisNumber a
    let x := m.axes.get a
    let c := s.chan a
    let limit := match d with | .neg => x.softMin | .pos => x.softMax
    let started : Nat → Jog := fun v =>
      { axis := some a, kind := some .continuous, direction := some d, speed := some v, target := none
        keep := .running m.jogKeep, stopping := false, slowing := false }
    let speedOf := if fast = true ∧ c.homed = true then x.jogFast else x.jogSlow
    (Takes s .pendant (.jog code (sideNumber d) speed) → s.setups.setup = some m →
      (s.cyc.mstate = .idle → ¬ (c.homed = true ∧ c.speedSq = 0 ∧ c.command = limit) →
        ∃ t, exec (.jog .pendant tag code (sideNumber d) speed) s = .next (sendReply .pendant tag .ok [] t)
          ∧ t = { frameEnded .pendant s with
              jet := s.jet.shut t.jet.bandIn, cyc := { s.cyc with mstate := .jogging, phase := none }
              jog := started speedOf })
      ∧ (s.cyc.mstate = .idle → c.homed = true → c.speedSq = 0 → c.command = limit →
        ∃ t, exec (.jog .pendant tag code (sideNumber d) speed) s = .next (sendReply .pendant tag .ok [] t)
          ∧ t = { frameEnded .pendant s with
              jet := s.jet.shut t.jet.bandIn, cyc := { s.cyc with mstate := .idle, phase := none }, jog := .reset })
      ∧ (s.cyc.mstate = .jogging → s.jog.axis = some a → ¬ (c.homed = true ∧ c.speedSq = 0 ∧ c.command = limit) →
        exec (.jog .pendant tag code (sideNumber d) speed) s
          = .next (sendReply .pendant tag .ok [] { frameEnded .pendant s with jog := started speedOf }))
      ∧ (∀ e, s.cyc.mstate = .fault → s.cyc.faultCause = some (.limit a e) → e ≠ d → s.lines.estop = false →
        exec (.jog .pendant tag code (sideNumber d) speed) s
          = .next (sendReply .pendant tag .ok [] { frameEnded .pendant s with jog := started x.jogSlow })))
    ∧ (∀ dist : Int, Takes s .pendant (.jogStep code dist) → s.setups.setup = some m → dist ≠ 0 →
      dist.natAbs ≤ 100000 → s.cyc.mstate = .idle →
      let goal := c.command + dist
      let clamped := if goal < x.softMin then x.softMin else if x.softMax < goal then x.softMax else goal
      let target := if c.homed then clamped else goal
      ((c.speedSq ≠ 0 ∨ c.command ≠ target) →
        ∃ t, exec (.jogStep .pendant tag code dist) s
            = .next (sendReply .pendant tag .ok (flag (decide (target ≠ goal))) t)
          ∧ t = { frameEnded .pendant s with
              jet := s.jet.shut t.jet.bandIn, cyc := { s.cyc with mstate := .jogging, phase := none }
              jog :=
                { axis := some a, kind := some .step, direction := some (if dist < 0 then .neg else .pos)
                  speed := some x.jogSlow, target := some target, keep := .stopped, stopping := false
                  slowing := c.speedSq != 0 } })
      ∧ (c.speedSq = 0 → c.command = target →
        ∃ t, exec (.jogStep .pendant tag code dist) s
            = .next (sendReply .pendant tag .ok (flag (decide (target ≠ goal))) t)
          ∧ t = { frameEnded .pendant s with
              jet := s.jet.shut t.jet.bandIn, cyc := { s.cyc with mstate := .idle, phase := none }, jog := .reset }))
    ∧ (∀ dist : Int, Takes s .pendant (.jogStep code dist) → s.setups.setup = some m → dist ≠ 0 →
      dist.natAbs ≤ 100000 → s.cyc.mstate = .jogging → s.jog.axis = some a → c.speedSq ≠ 0 →
      let goal := c.command + dist
      let clamped := if goal < x.softMin then x.softMin else if x.softMax < goal then x.softMax else goal
      let target := if c.homed then clamped else goal
      exec (.jogStep .pendant tag code dist) s
        = .next (sendReply .pendant tag .ok (flag (decide (target ≠ goal))) { frameEnded .pendant s with
            jog :=
              { axis := some a, kind := some .step, direction := some (if dist < 0 then .neg else .pos)
                speed := some x.jogSlow, target := some target, keep := .stopped, stopping := false
                slowing := true } }))
    ∧ (∀ target : Int, Live s → s.setups.setup = some m → s.cyc.mstate = .jogging → s.jog.axis = some a →
      s.jog.target = some target → s.jog.slowing = true → s.jog.stopping = false →
      2 * x.acceleration ≤ c.speedSq →
      let next := match c.dir with | .neg => c.command - 1 | .pos => c.command + 1
      (c.homed = true → x.softMin ≤ next ∧ next ≤ x.softMax) → (next - c.encoder).natAbs ≤ x.followingLimit →
      exec (.stepPulse a) s = .next { s with
        axes := s.axes.set a { c with command := next, speedSq := c.speedSq - 2 * x.acceleration } })
    ∧ (∀ (n e v : Nat) (dist : Int), Takes s .pendant (.jog n e v) →
      ((3 ≤ n ∨ 2 ≤ e ∨ 2 ≤ v) →
        exec (.jog .pendant tag n e v) s = .next (sendReply .pendant tag .range (num1 0) (frameEnded .pendant s)))
      ∧ ((3 ≤ n ∨ dist = 0 ∨ 100000 < dist.natAbs) →
        exec (.jogStep .pendant tag n dist) s
          = .next (sendReply .pendant tag .range (num1 0) (frameEnded .pendant s))))
    ∧ ∀ dist : Int, Takes s .pendant (.jog code (sideNumber d) speed) → dist ≠ 0 → dist.natAbs ≤ 100000 →
      ((s.cyc.mstate = .jogging ∧ s.jog.axis ≠ some a)
        ∨ s.cyc.mstate = .homing ∨ s.cyc.mstate = .unconfigured ∨ s.cyc.mstate.inCycle = true
        ∨ (s.cyc.mstate = .fault ∧ ∀ b e, s.cyc.faultCause ≠ some (.limit b e))) →
      exec (.jog .pendant tag code (sideNumber d) speed) s
          = .next (sendReply .pendant tag .wrongState [] (frameEnded .pendant s))
        ∧ exec (.jogStep .pendant tag code dist) s
          = .next (sendReply .pendant tag .wrongState [] (frameEnded .pendant s))

/-- R168, R169, R170, R153: JOG_REFRESH restarts the keep timer of a continuous jog that is not stopping; the timer's
expiry and JOG_STOP tell the jog to stop; its axis at rest ends it, at the target of a JOG_STEP or the soft limit
ahead where it was not told to stop, and an escape jog ends in FAULT with the axis tracking. A change of the key into
PRODUCTION tells the jog to stop (R170). That an expiry does nothing while the keep timer is stopped is entry 13, the
jumps to named points are entry 14. -/
def Obligations.JogsEnd : Prop :=
  ∀ (m : MachineSetup) (s : State), s.setups.setup = some m →
    (∀ tag, Takes s .pendant .jogRefresh →
      (s.jog.kind = some .continuous → s.jog.stopping = false →
        exec (.jogRefresh .pendant tag) s = .next (sendReply .pendant tag .ok []
          { frameEnded .pendant s with jog := { s.jog with keep := .running m.jogKeep } }))
      ∧ ((s.jog.kind ≠ some .continuous ∨ s.jog.stopping = true) →
        exec (.jogRefresh .pendant tag) s
          = .next (sendReply .pendant tag .wrongState [] (frameEnded .pendant s))))
    ∧ (∀ tag, Ready s .pendant →
      (s.jog.axis ≠ none →
        exec (.jogStop .pendant tag) s = .next (sendReply .pendant tag .ok []
          { frameEnded .pendant s with jog := { s.jog with stopping := true } }))
      ∧ (s.jog.axis = none →
        exec (.jogStop .pendant tag) s = .next (sendReply .pendant tag .ok [] (frameEnded .pendant s))))
    ∧ (Live s →
      (∀ ms, s.jog.keep = .running ms →
        exec .keepTimerExpiry s = .next { s with jog := { s.jog with keep := .stopped, stopping := true } })
      ∧ (s.jog.keep = .stopped → exec .keepTimerExpiry s = .next s)
      ∧ (s.cyc.mstate = .jogging → s.jog.axis ≠ none → s.ports.keyMode ≠ .production → s.path.cursor = none →
        exec (.keyModeChange false false) s = .next { s with
          lines := { s.lines with key1 := false, key0 := false }, ports := { s.ports with keyMode := .production }
          path := { s.path with override := s.cyc.reqOverride }, jog := { s.jog with stopping := true } })
      ∧ ∀ (a : Axis) (rest : Int), s.jog.axis = some a →
        ((s.jog.stopping = true ∧ rest = (s.chan a).command)
          ∨ (s.jog.stopping = false ∧ s.jog.target = some rest)
          ∨ (s.jog.stopping = false ∧ s.jog.target = none ∧ s.cyc.mstate ≠ .fault ∧ (s.chan a).homed = true
              ∧ ∃ d, s.jog.direction = some d
                ∧ rest = match d with | .neg => (m.axes.get a).softMin | .pos => (m.axes.get a).softMax)) →
        let moved : Channel := { (s.chan a).jump rest with speedSq := 0 }
        (s.cyc.mstate = .jogging →
          ∃ t, exec .jogAtRest s = .next t
            ∧ t = { s with
                jet := s.jet.shut t.jet.bandIn, cyc := { s.cyc with mstate := .idle, phase := none }, jog := .reset
                axes := s.axes.set a moved })
        ∧ ∀ fc, s.cyc.mstate = .fault → s.cyc.faultCause = some fc →
          exec .jogAtRest s = .next { s with
            cyc := { s.cyc with faultCause := some (causeLeft fc s.lines) }, jog := .reset
            axes := s.axes.set a { moved with command := moved.encoder } })

/-! ### Faults -/

/-- R147 to R151, R85, R88, R121: the fault causes make the fault action in every state but FAULT. R152, R147: there
ESTOP and a limit input raise their alert and test the fault cause (R151); a contact with the watch off, as in FAULT,
changes the line alone. R153: ESTOP and the other limit input of its axis end an escape jog, and the switch that it
moves away from is not reported. The motion fields are entry 19, the speeds of a pulse entry 18. -/
def Obligations.FaultAction : Prop :=
  ∀ s : State, Live s →
    let estop : State := { s with lines := { s.lines with estop := true } }
    let raised : FaultCause → Option AlertRecord := fun fc =>
      some (recordAlert fc.code fc.detail ⟨s.cyc.active, s.path.cursor, .fault⟩ s.alert)
    (s.lines.estop = false →
      (s.cyc.mstate ≠ .fault → ∃ t, exec .estopAssert s = .next t ∧ FaultTaken .estop estop t)
      ∧ ∀ fc, s.cyc.mstate = .fault → s.cyc.faultCause = some fc →
        (s.jog.axis = none →
          exec .estopAssert s = .next { estop with
            alert := raised .estop, cyc := { s.cyc with faultCause := some (causeLeft fc estop.lines) } })
        ∧ ∀ b, s.jog.axis = some b →
          exec .estopAssert s = .next { estop with
            alert := raised .estop, cyc := { s.cyc with faultCause := some (causeLeft fc estop.lines) }
            jog := .reset
            axes := s.axes.set b { s.chan b with command := (s.chan b).encoder, speedSq := 0 } })
    ∧ (∀ a d, s.lines.limit a d = false →
      let limit := setLimit a d true s
      (s.cyc.mstate ≠ .fault → ∃ t, exec (.limitAssert a d) s = .next t ∧ FaultTaken (.limit a d) limit t)
      ∧ ∀ fc, s.cyc.mstate = .fault → s.cyc.faultCause = some fc →
        (s.jog.axis = none →
          exec (.limitAssert a d) s = .next { limit with
            alert := raised (.limit a d), cyc := { s.cyc with faultCause := some (causeLeft fc limit.lines) } })
        ∧ (s.jog.axis ≠ none → fc = .limit a d → exec (.limitAssert a d) s = .next limit)
        ∧ (s.jog.axis = some a → fc ≠ .limit a d →
          exec (.limitAssert a d) s = .next { limit with
            alert := raised (.limit a d), cyc := { s.cyc with faultCause := some (causeLeft fc limit.lines) }
            jog := .reset
            axes := s.axes.set a { s.chan a with command := (s.chan a).encoder, speedSq := 0 } })
        ∧ ∀ b, s.jog.axis = some b → b ≠ a → fc ≠ .limit a d →
          exec (.limitAssert a d) s = .next { limit with alert := raised (.limit a d) })
    ∧ (s.lines.contact = false → s.cyc.mstate.inCycle = true → s.zmotion.isDescent = false →
      s.cyc.suspension = false →
      ∃ t, exec .contactAssert s = .next t
        ∧ FaultTaken .collision { s with lines := { s.lines with contact := true } } t)
    ∧ (s.lines.contact = false → s.zmotion.isDescent = false →
      (s.cyc.mstate.inCycle = false ∨ s.cyc.suspension = true) →
      exec .contactAssert s = .next { s with lines := { s.lines with contact := true } })
    ∧ ∀ m, s.setups.setup = some m →
      (∀ (a : Axis) (up : Bool), s.cyc.mstate ≠ .fault → s.cyc.mstate ≠ .unconfigured →
        let e := (s.chan a).encoder + if up = ((m.axes.get a).encoderReverse == 0) then 1 else -1
        (m.axes.get a).followingLimit < ((s.chan a).command - e).natAbs →
        ∃ t, exec (.encoderCount a up) s = .next t
          ∧ FaultTaken (.following a) (s.onAxis a fun x => { x with encoder := e }) t)
      ∧ (∀ t0 purpose, s.cyc.mstate.inCycle = true → s.zmotion = .moving t0 purpose → s.axes.z.command ≠ t0 →
        let next := if s.axes.z.command < t0 then s.axes.z.command + 1 else s.axes.z.command - 1
        m.axes.z.followingLimit < (next - s.axes.z.encoder).natAbs →
        ∃ t v, exec (.stepPulse .z) s = .next t
          ∧ FaultTaken (.following .z) (s.onAxis .z fun x =>
              { x with command := next, dir := if s.axes.z.command < t0 then .pos else .neg, speedSq := v }) t)
      ∧ ∀ (a : Axis) p g, a ≠ .z → s.cyc.mstate = .running → s.path.cursor = some p → s.cursorSegment = some g →
        let q := (g.pointAt p.dist).along a
        let next := if (s.chan a).command < q then (s.chan a).command + 1 else (s.chan a).command - 1
        (s.chan a).command ≠ q → (m.axes.get a).followingLimit < (next - (s.chan a).encoder).natAbs →
        ∃ t, exec (.stepPulse a) s = .next t
          ∧ FaultTaken (.following a) (s.onAxis a fun x =>
              { x with command := next, dir := if (s.chan a).command < q then .pos else .neg }) t

/-- R151, R154, R87: RELEASE_FAULT leaves FAULT for IDLE or UNCONFIGURED, dropping the homed flags of axes outside
their windows, and is refused by its conditions in order; a negation of ESTOP or of a limit input in FAULT tests the
fault cause, and outside FAULT changes the line alone. -/
def Obligations.FaultRelease : Prop :=
  (∀ (tag : Byte) (m : MachineSetup) (s : State), Ready s .pendant → s.cyc.mstate = .fault → s.jog.axis = none →
    s.lines.estop = false → s.lines.firstLimit = none → s.setups.setup = some m →
    ∃ t, exec (.releaseFault .pendant tag) s = .next (sendReply .pendant tag .ok
        (flag t.axes.x.homed ++ flag t.axes.y.homed ++ flag t.axes.z.homed) t)
      ∧ t = { frameEnded .pendant s with
          jet := s.jet.shut t.jet.bandIn
          cyc := { s.cyc with mstate := .idle, phase := none, faultCause := none }
          axes := t.axes }
      ∧ ∀ a, t.chan a = { s.chan a with homed := (s.chan a).homed
          && (decide ((m.axes.get a).softMin ≤ (s.chan a).command)
            && decide ((s.chan a).command ≤ (m.axes.get a).softMax)) })
  ∧ (∀ (tag : Byte) (s : State), Ready s .pendant → s.cyc.mstate = .fault → s.jog.axis = none →
    s.lines.estop = false → s.lines.firstLimit = none → s.setups.setup = none →
    ∃ t, exec (.releaseFault .pendant tag) s = .next t ∧ t.cyc.mstate = .unconfigured ∧ t.cyc.faultCause = none
      ∧ t.axes = s.axes)
  ∧ (∀ (tag : Byte) (s : State), Ready s .pendant →
    ((s.cyc.mstate ≠ .fault ∨ s.jog.axis ≠ none) →
      exec (.releaseFault .pendant tag) s = .next (sendReply .pendant tag .wrongState [] (frameEnded .pendant s)))
    ∧ (s.cyc.mstate = .fault → s.jog.axis = none → (s.lines.estop = true ∨ s.lines.firstLimit ≠ none) →
      exec (.releaseFault .pendant tag) s
        = .next (sendReply .pendant tag .causePresent [] (frameEnded .pendant s))))
  ∧ ∀ s : State, Live s →
    (s.cyc.mstate ≠ .fault →
      exec .estopNegate s = .next { s with lines := { s.lines with estop := false } }
      ∧ ∀ a d, exec (.limitNegate a d) s = .next (setLimit a d false s))
    ∧ ∀ fc, s.cyc.mstate = .fault → s.jog.axis = none → s.cyc.faultCause = some fc →
      (let l : Lines := { s.lines with estop := false }
       exec .estopNegate s = .next { s with
         lines := l, cyc := { s.cyc with faultCause := some (causeLeft fc l) } })
      ∧ ∀ a d, exec (.limitNegate a d) s = .next { (setLimit a d false s) with
          cyc := { s.cyc with faultCause := some (causeLeft fc (setLimit a d false s).lines) } }

/-- R149, R154, R194: what holds in FAULT is kept by every step, and FAULT is left only by RELEASE_FAULT, by a frame
that may carry it, or by a reset. -/
def Obligations.FaultHoldsUntilReleased : Prop :=
  (∀ s t : State, step s = .next t → FaultLaw s → FaultLaw t)
  ∧ ∀ (c : Instr) (s t : State), FaultLaw s → s.cyc.mstate = .fault → exec c s = .next t →
    (∀ p tag, c ≠ .releaseFault p tag) → (∀ p tag code body, c ≠ .unknownRequest p tag code body) →
    (∀ p b k, c ≠ .characterReceived p b k) → (∀ p, c ≠ .replySent p) → (∀ v, c ≠ .resetInput v) →
    (∀ v, c ≠ .powerOn v) → t.cyc.mstate = .fault
end

