-- ==== Sys2Proof/Laws/State.lean ====
section
/-! SUPPORT. One lemma for each field of the state under each update of one of its parts, so that no proof unfolds an
update; the reads and updates of one axis, one contour record and one port. -/

namespace Sys2Proof.Machine

variable (s : State)

/-! ### `State.onLines` -/

@[simp] theorem State.onLines_pending (f : Lines → Lines) : (s.onLines f).pending = s.pending := rfl
@[simp] theorem State.onLines_lines (f : Lines → Lines) : (s.onLines f).lines = f s.lines := rfl
@[simp] theorem State.onLines_ports (f : Lines → Lines) : (s.onLines f).ports = s.ports := rfl
@[simp] theorem State.onLines_prog (f : Lines → Lines) : (s.onLines f).prog = s.prog := rfl
@[simp] theorem State.onLines_setups (f : Lines → Lines) : (s.onLines f).setups = s.setups := rfl
@[simp] theorem State.onLines_cyc (f : Lines → Lines) : (s.onLines f).cyc = s.cyc := rfl
@[simp] theorem State.onLines_homing (f : Lines → Lines) : (s.onLines f).homing = s.homing := rfl
@[simp] theorem State.onLines_jog (f : Lines → Lines) : (s.onLines f).jog = s.jog := rfl
@[simp] theorem State.onLines_path (f : Lines → Lines) : (s.onLines f).path = s.path := rfl
@[simp] theorem State.onLines_axes (f : Lines → Lines) : (s.onLines f).axes = s.axes := rfl
@[simp] theorem State.onLines_zmotion (f : Lines → Lines) : (s.onLines f).zmotion = s.zmotion := rfl
@[simp] theorem State.onLines_jet (f : Lines → Lines) : (s.onLines f).jet = s.jet := rfl
@[simp] theorem State.onLines_alert (f : Lines → Lines) : (s.onLines f).alert = s.alert := rfl

/-! ### `State.onPorts` -/

@[simp] theorem State.onPorts_pending (f : Ports → Ports) : (s.onPorts f).pending = s.pending := rfl
@[simp] theorem State.onPorts_lines (f : Ports → Ports) : (s.onPorts f).lines = s.lines := rfl
@[simp] theorem State.onPorts_ports (f : Ports → Ports) : (s.onPorts f).ports = f s.ports := rfl
@[simp] theorem State.onPorts_prog (f : Ports → Ports) : (s.onPorts f).prog = s.prog := rfl
@[simp] theorem State.onPorts_setups (f : Ports → Ports) : (s.onPorts f).setups = s.setups := rfl
@[simp] theorem State.onPorts_cyc (f : Ports → Ports) : (s.onPorts f).cyc = s.cyc := rfl
@[simp] theorem State.onPorts_homing (f : Ports → Ports) : (s.onPorts f).homing = s.homing := rfl
@[simp] theorem State.onPorts_jog (f : Ports → Ports) : (s.onPorts f).jog = s.jog := rfl
@[simp] theorem State.onPorts_path (f : Ports → Ports) : (s.onPorts f).path = s.path := rfl
@[simp] theorem State.onPorts_axes (f : Ports → Ports) : (s.onPorts f).axes = s.axes := rfl
@[simp] theorem State.onPorts_zmotion (f : Ports → Ports) : (s.onPorts f).zmotion = s.zmotion := rfl
@[simp] theorem State.onPorts_jet (f : Ports → Ports) : (s.onPorts f).jet = s.jet := rfl
@[simp] theorem State.onPorts_alert (f : Ports → Ports) : (s.onPorts f).alert = s.alert := rfl

/-! ### `State.onProg` -/

@[simp] theorem State.onProg_pending (f : ProgramStore → ProgramStore) : (s.onProg f).pending = s.pending := rfl
@[simp] theorem State.onProg_lines (f : ProgramStore → ProgramStore) : (s.onProg f).lines = s.lines := rfl
@[simp] theorem State.onProg_ports (f : ProgramStore → ProgramStore) : (s.onProg f).ports = s.ports := rfl
@[simp] theorem State.onProg_prog (f : ProgramStore → ProgramStore) : (s.onProg f).prog = f s.prog := rfl
@[simp] theorem State.onProg_setups (f : ProgramStore → ProgramStore) : (s.onProg f).setups = s.setups := rfl
@[simp] theorem State.onProg_cyc (f : ProgramStore → ProgramStore) : (s.onProg f).cyc = s.cyc := rfl
@[simp] theorem State.onProg_homing (f : ProgramStore → ProgramStore) : (s.onProg f).homing = s.homing := rfl
@[simp] theorem State.onProg_jog (f : ProgramStore → ProgramStore) : (s.onProg f).jog = s.jog := rfl
@[simp] theorem State.onProg_path (f : ProgramStore → ProgramStore) : (s.onProg f).path = s.path := rfl
@[simp] theorem State.onProg_axes (f : ProgramStore → ProgramStore) : (s.onProg f).axes = s.axes := rfl
@[simp] theorem State.onProg_zmotion (f : ProgramStore → ProgramStore) : (s.onProg f).zmotion = s.zmotion := rfl
@[simp] theorem State.onProg_jet (f : ProgramStore → ProgramStore) : (s.onProg f).jet = s.jet := rfl
@[simp] theorem State.onProg_alert (f : ProgramStore → ProgramStore) : (s.onProg f).alert = s.alert := rfl

/-! ### `State.onSetups` -/

@[simp] theorem State.onSetups_pending (f : SetupStore → SetupStore) : (s.onSetups f).pending = s.pending := rfl
@[simp] theorem State.onSetups_lines (f : SetupStore → SetupStore) : (s.onSetups f).lines = s.lines := rfl
@[simp] theorem State.onSetups_ports (f : SetupStore → SetupStore) : (s.onSetups f).ports = s.ports := rfl
@[simp] theorem State.onSetups_prog (f : SetupStore → SetupStore) : (s.onSetups f).prog = s.prog := rfl
@[simp] theorem State.onSetups_setups (f : SetupStore → SetupStore) : (s.onSetups f).setups = f s.setups := rfl
@[simp] theorem State.onSetups_cyc (f : SetupStore → SetupStore) : (s.onSetups f).cyc = s.cyc := rfl
@[simp] theorem State.onSetups_homing (f : SetupStore → SetupStore) : (s.onSetups f).homing = s.homing := rfl
@[simp] theorem State.onSetups_jog (f : SetupStore → SetupStore) : (s.onSetups f).jog = s.jog := rfl
@[simp] theorem State.onSetups_path (f : SetupStore → SetupStore) : (s.onSetups f).path = s.path := rfl
@[simp] theorem State.onSetups_axes (f : SetupStore → SetupStore) : (s.onSetups f).axes = s.axes := rfl
@[simp] theorem State.onSetups_zmotion (f : SetupStore → SetupStore) : (s.onSetups f).zmotion = s.zmotion := rfl
@[simp] theorem State.onSetups_jet (f : SetupStore → SetupStore) : (s.onSetups f).jet = s.jet := rfl
@[simp] theorem State.onSetups_alert (f : SetupStore → SetupStore) : (s.onSetups f).alert = s.alert := rfl

/-! ### `State.onCyc` -/

@[simp] theorem State.onCyc_pending (f : CycleController → CycleController) : (s.onCyc f).pending = s.pending := rfl
@[simp] theorem State.onCyc_lines (f : CycleController → CycleController) : (s.onCyc f).lines = s.lines := rfl
@[simp] theorem State.onCyc_ports (f : CycleController → CycleController) : (s.onCyc f).ports = s.ports := rfl
@[simp] theorem State.onCyc_prog (f : CycleController → CycleController) : (s.onCyc f).prog = s.prog := rfl
@[simp] theorem State.onCyc_setups (f : CycleController → CycleController) : (s.onCyc f).setups = s.setups := rfl
@[simp] theorem State.onCyc_cyc (f : CycleController → CycleController) : (s.onCyc f).cyc = f s.cyc := rfl
@[simp] theorem State.onCyc_homing (f : CycleController → CycleController) : (s.onCyc f).homing = s.homing := rfl
@[simp] theorem State.onCyc_jog (f : CycleController → CycleController) : (s.onCyc f).jog = s.jog := rfl
@[simp] theorem State.onCyc_path (f : CycleController → CycleController) : (s.onCyc f).path = s.path := rfl
@[simp] theorem State.onCyc_axes (f : CycleController → CycleController) : (s.onCyc f).axes = s.axes := rfl
@[simp] theorem State.onCyc_zmotion (f : CycleController → CycleController) : (s.onCyc f).zmotion = s.zmotion := rfl
@[simp] theorem State.onCyc_jet (f : CycleController → CycleController) : (s.onCyc f).jet = s.jet := rfl
@[simp] theorem State.onCyc_alert (f : CycleController → CycleController) : (s.onCyc f).alert = s.alert := rfl

/-! ### `State.onHoming` -/

@[simp] theorem State.onHoming_pending (f : Homing → Homing) : (s.onHoming f).pending = s.pending := rfl
@[simp] theorem State.onHoming_lines (f : Homing → Homing) : (s.onHoming f).lines = s.lines := rfl
@[simp] theorem State.onHoming_ports (f : Homing → Homing) : (s.onHoming f).ports = s.ports := rfl
@[simp] theorem State.onHoming_prog (f : Homing → Homing) : (s.onHoming f).prog = s.prog := rfl
@[simp] theorem State.onHoming_setups (f : Homing → Homing) : (s.onHoming f).setups = s.setups := rfl
@[simp] theorem State.onHoming_cyc (f : Homing → Homing) : (s.onHoming f).cyc = s.cyc := rfl
@[simp] theorem State.onHoming_homing (f : Homing → Homing) : (s.onHoming f).homing = f s.homing := rfl
@[simp] theorem State.onHoming_jog (f : Homing → Homing) : (s.onHoming f).jog = s.jog := rfl
@[simp] theorem State.onHoming_path (f : Homing → Homing) : (s.onHoming f).path = s.path := rfl
@[simp] theorem State.onHoming_axes (f : Homing → Homing) : (s.onHoming f).axes = s.axes := rfl
@[simp] theorem State.onHoming_zmotion (f : Homing → Homing) : (s.onHoming f).zmotion = s.zmotion := rfl
@[simp] theorem State.onHoming_jet (f : Homing → Homing) : (s.onHoming f).jet = s.jet := rfl
@[simp] theorem State.onHoming_alert (f : Homing → Homing) : (s.onHoming f).alert = s.alert := rfl

/-! ### `State.onJog` -/

@[simp] theorem State.onJog_pending (f : Jog → Jog) : (s.onJog f).pending = s.pending := rfl
@[simp] theorem State.onJog_lines (f : Jog → Jog) : (s.onJog f).lines = s.lines := rfl
@[simp] theorem State.onJog_ports (f : Jog → Jog) : (s.onJog f).ports = s.ports := rfl
@[simp] theorem State.onJog_prog (f : Jog → Jog) : (s.onJog f).prog = s.prog := rfl
@[simp] theorem State.onJog_setups (f : Jog → Jog) : (s.onJog f).setups = s.setups := rfl
@[simp] theorem State.onJog_cyc (f : Jog → Jog) : (s.onJog f).cyc = s.cyc := rfl
@[simp] theorem State.onJog_homing (f : Jog → Jog) : (s.onJog f).homing = s.homing := rfl
@[simp] theorem State.onJog_jog (f : Jog → Jog) : (s.onJog f).jog = f s.jog := rfl
@[simp] theorem State.onJog_path (f : Jog → Jog) : (s.onJog f).path = s.path := rfl
@[simp] theorem State.onJog_axes (f : Jog → Jog) : (s.onJog f).axes = s.axes := rfl
@[simp] theorem State.onJog_zmotion (f : Jog → Jog) : (s.onJog f).zmotion = s.zmotion := rfl
@[simp] theorem State.onJog_jet (f : Jog → Jog) : (s.onJog f).jet = s.jet := rfl
@[simp] theorem State.onJog_alert (f : Jog → Jog) : (s.onJog f).alert = s.alert := rfl

/-! ### `State.onPath` -/

@[simp] theorem State.onPath_pending (f : ProfileGenerator → ProfileGenerator) :
    (s.onPath f).pending = s.pending := rfl
@[simp] theorem State.onPath_lines (f : ProfileGenerator → ProfileGenerator) : (s.onPath f).lines = s.lines := rfl
@[simp] theorem State.onPath_ports (f : ProfileGenerator → ProfileGenerator) : (s.onPath f).ports = s.ports := rfl
@[simp] theorem State.onPath_prog (f : ProfileGenerator → ProfileGenerator) : (s.onPath f).prog = s.prog := rfl
@[simp] theorem State.onPath_setups (f : ProfileGenerator → ProfileGenerator) : (s.onPath f).setups = s.setups := rfl
@[simp] theorem State.onPath_cyc (f : ProfileGenerator → ProfileGenerator) : (s.onPath f).cyc = s.cyc := rfl
@[simp] theorem State.onPath_homing (f : ProfileGenerator → ProfileGenerator) : (s.onPath f).homing = s.homing := rfl
@[simp] theorem State.onPath_jog (f : ProfileGenerator → ProfileGenerator) : (s.onPath f).jog = s.jog := rfl
@[simp] theorem State.onPath_path (f : ProfileGenerator → ProfileGenerator) : (s.onPath f).path = f s.path := rfl
@[simp] theorem State.onPath_axes (f : ProfileGenerator → ProfileGenerator) : (s.onPath f).axes = s.axes := rfl
@[simp] theorem State.onPath_zmotion (f : ProfileGenerator → ProfileGenerator) :
    (s.onPath f).zmotion = s.zmotion := rfl
@[simp] theorem State.onPath_jet (f : ProfileGenerator → ProfileGenerator) : (s.onPath f).jet = s.jet := rfl
@[simp] theorem State.onPath_alert (f : ProfileGenerator → ProfileGenerator) : (s.onPath f).alert = s.alert := rfl

/-! ### `State.onAxes` -/

@[simp] theorem State.onAxes_pending (f : PerAxis Channel → PerAxis Channel) : (s.onAxes f).pending = s.pending := rfl
@[simp] theorem State.onAxes_lines (f : PerAxis Channel → PerAxis Channel) : (s.onAxes f).lines = s.lines := rfl
@[simp] theorem State.onAxes_ports (f : PerAxis Channel → PerAxis Channel) : (s.onAxes f).ports = s.ports := rfl
@[simp] theorem State.onAxes_prog (f : PerAxis Channel → PerAxis Channel) : (s.onAxes f).prog = s.prog := rfl
@[simp] theorem State.onAxes_setups (f : PerAxis Channel → PerAxis Channel) : (s.onAxes f).setups = s.setups := rfl
@[simp] theorem State.onAxes_cyc (f : PerAxis Channel → PerAxis Channel) : (s.onAxes f).cyc = s.cyc := rfl
@[simp] theorem State.onAxes_homing (f : PerAxis Channel → PerAxis Channel) : (s.onAxes f).homing = s.homing := rfl
@[simp] theorem State.onAxes_jog (f : PerAxis Channel → PerAxis Channel) : (s.onAxes f).jog = s.jog := rfl
@[simp] theorem State.onAxes_path (f : PerAxis Channel → PerAxis Channel) : (s.onAxes f).path = s.path := rfl
@[simp] theorem State.onAxes_axes (f : PerAxis Channel → PerAxis Channel) : (s.onAxes f).axes = f s.axes := rfl
@[simp] theorem State.onAxes_zmotion (f : PerAxis Channel → PerAxis Channel) : (s.onAxes f).zmotion = s.zmotion := rfl
@[simp] theorem State.onAxes_jet (f : PerAxis Channel → PerAxis Channel) : (s.onAxes f).jet = s.jet := rfl
@[simp] theorem State.onAxes_alert (f : PerAxis Channel → PerAxis Channel) : (s.onAxes f).alert = s.alert := rfl

/-! ### `State.onJet` -/

@[simp] theorem State.onJet_pending (f : Jet → Jet) : (s.onJet f).pending = s.pending := rfl
@[simp] theorem State.onJet_lines (f : Jet → Jet) : (s.onJet f).lines = s.lines := rfl
@[simp] theorem State.onJet_ports (f : Jet → Jet) : (s.onJet f).ports = s.ports := rfl
@[simp] theorem State.onJet_prog (f : Jet → Jet) : (s.onJet f).prog = s.prog := rfl
@[simp] theorem State.onJet_setups (f : Jet → Jet) : (s.onJet f).setups = s.setups := rfl
@[simp] theorem State.onJet_cyc (f : Jet → Jet) : (s.onJet f).cyc = s.cyc := rfl
@[simp] theorem State.onJet_homing (f : Jet → Jet) : (s.onJet f).homing = s.homing := rfl
@[simp] theorem State.onJet_jog (f : Jet → Jet) : (s.onJet f).jog = s.jog := rfl
@[simp] theorem State.onJet_path (f : Jet → Jet) : (s.onJet f).path = s.path := rfl
@[simp] theorem State.onJet_axes (f : Jet → Jet) : (s.onJet f).axes = s.axes := rfl
@[simp] theorem State.onJet_zmotion (f : Jet → Jet) : (s.onJet f).zmotion = s.zmotion := rfl
@[simp] theorem State.onJet_jet (f : Jet → Jet) : (s.onJet f).jet = f s.jet := rfl
@[simp] theorem State.onJet_alert (f : Jet → Jet) : (s.onJet f).alert = s.alert := rfl

/-! ### `State.setZ` -/

@[simp] theorem State.setZ_pending (v : ZMotion) : (s.setZ v).pending = s.pending := rfl
@[simp] theorem State.setZ_lines (v : ZMotion) : (s.setZ v).lines = s.lines := rfl
@[simp] theorem State.setZ_ports (v : ZMotion) : (s.setZ v).ports = s.ports := rfl
@[simp] theorem State.setZ_prog (v : ZMotion) : (s.setZ v).prog = s.prog := rfl
@[simp] theorem State.setZ_setups (v : ZMotion) : (s.setZ v).setups = s.setups := rfl
@[simp] theorem State.setZ_cyc (v : ZMotion) : (s.setZ v).cyc = s.cyc := rfl
@[simp] theorem State.setZ_homing (v : ZMotion) : (s.setZ v).homing = s.homing := rfl
@[simp] theorem State.setZ_jog (v : ZMotion) : (s.setZ v).jog = s.jog := rfl
@[simp] theorem State.setZ_path (v : ZMotion) : (s.setZ v).path = s.path := rfl
@[simp] theorem State.setZ_axes (v : ZMotion) : (s.setZ v).axes = s.axes := rfl
@[simp] theorem State.setZ_zmotion (v : ZMotion) : (s.setZ v).zmotion = v := rfl
@[simp] theorem State.setZ_jet (v : ZMotion) : (s.setZ v).jet = s.jet := rfl
@[simp] theorem State.setZ_alert (v : ZMotion) : (s.setZ v).alert = s.alert := rfl

/-! ### `State.setAlert` -/

@[simp] theorem State.setAlert_pending (v : Option AlertRecord) : (s.setAlert v).pending = s.pending := rfl
@[simp] theorem State.setAlert_lines (v : Option AlertRecord) : (s.setAlert v).lines = s.lines := rfl
@[simp] theorem State.setAlert_ports (v : Option AlertRecord) : (s.setAlert v).ports = s.ports := rfl
@[simp] theorem State.setAlert_prog (v : Option AlertRecord) : (s.setAlert v).prog = s.prog := rfl
@[simp] theorem State.setAlert_setups (v : Option AlertRecord) : (s.setAlert v).setups = s.setups := rfl
@[simp] theorem State.setAlert_cyc (v : Option AlertRecord) : (s.setAlert v).cyc = s.cyc := rfl
@[simp] theorem State.setAlert_homing (v : Option AlertRecord) : (s.setAlert v).homing = s.homing := rfl
@[simp] theorem State.setAlert_jog (v : Option AlertRecord) : (s.setAlert v).jog = s.jog := rfl
@[simp] theorem State.setAlert_path (v : Option AlertRecord) : (s.setAlert v).path = s.path := rfl
@[simp] theorem State.setAlert_axes (v : Option AlertRecord) : (s.setAlert v).axes = s.axes := rfl
@[simp] theorem State.setAlert_zmotion (v : Option AlertRecord) : (s.setAlert v).zmotion = s.zmotion := rfl
@[simp] theorem State.setAlert_jet (v : Option AlertRecord) : (s.setAlert v).jet = s.jet := rfl
@[simp] theorem State.setAlert_alert (v : Option AlertRecord) : (s.setAlert v).alert = v := rfl

/-! ### `State.onAxis` -/

@[simp] theorem State.onAxis_pending (a : Axis) (f : Channel → Channel) : (s.onAxis a f).pending = s.pending := rfl
@[simp] theorem State.onAxis_lines (a : Axis) (f : Channel → Channel) : (s.onAxis a f).lines = s.lines := rfl
@[simp] theorem State.onAxis_ports (a : Axis) (f : Channel → Channel) : (s.onAxis a f).ports = s.ports := rfl
@[simp] theorem State.onAxis_prog (a : Axis) (f : Channel → Channel) : (s.onAxis a f).prog = s.prog := rfl
@[simp] theorem State.onAxis_setups (a : Axis) (f : Channel → Channel) : (s.onAxis a f).setups = s.setups := rfl
@[simp] theorem State.onAxis_cyc (a : Axis) (f : Channel → Channel) : (s.onAxis a f).cyc = s.cyc := rfl
@[simp] theorem State.onAxis_homing (a : Axis) (f : Channel → Channel) : (s.onAxis a f).homing = s.homing := rfl
@[simp] theorem State.onAxis_jog (a : Axis) (f : Channel → Channel) : (s.onAxis a f).jog = s.jog := rfl
@[simp] theorem State.onAxis_path (a : Axis) (f : Channel → Channel) : (s.onAxis a f).path = s.path := rfl
@[simp] theorem State.onAxis_zmotion (a : Axis) (f : Channel → Channel) : (s.onAxis a f).zmotion = s.zmotion := rfl
@[simp] theorem State.onAxis_jet (a : Axis) (f : Channel → Channel) : (s.onAxis a f).jet = s.jet := rfl
@[simp] theorem State.onAxis_alert (a : Axis) (f : Channel → Channel) : (s.onAxis a f).alert = s.alert := rfl

/-! ### `State.setContour` -/

@[simp] theorem State.setContour_pending (c : Fin Config.contours) (r : Option Contour) :
    (s.setContour c r).pending = s.pending := rfl
@[simp] theorem State.setContour_lines (c : Fin Config.contours) (r : Option Contour) :
    (s.setContour c r).lines = s.lines := rfl
@[simp] theorem State.setContour_ports (c : Fin Config.contours) (r : Option Contour) :
    (s.setContour c r).ports = s.ports := rfl
@[simp] theorem State.setContour_setups (c : Fin Config.contours) (r : Option Contour) :
    (s.setContour c r).setups = s.setups := rfl
@[simp] theorem State.setContour_cyc (c : Fin Config.contours) (r : Option Contour) :
    (s.setContour c r).cyc = s.cyc := rfl
@[simp] theorem State.setContour_homing (c : Fin Config.contours) (r : Option Contour) :
    (s.setContour c r).homing = s.homing := rfl
@[simp] theorem State.setContour_jog (c : Fin Config.contours) (r : Option Contour) :
    (s.setContour c r).jog = s.jog := rfl
@[simp] theorem State.setContour_path (c : Fin Config.contours) (r : Option Contour) :
    (s.setContour c r).path = s.path := rfl
@[simp] theorem State.setContour_axes (c : Fin Config.contours) (r : Option Contour) :
    (s.setContour c r).axes = s.axes := rfl
@[simp] theorem State.setContour_zmotion (c : Fin Config.contours) (r : Option Contour) :
    (s.setContour c r).zmotion = s.zmotion := rfl
@[simp] theorem State.setContour_jet (c : Fin Config.contours) (r : Option Contour) :
    (s.setContour c r).jet = s.jet := rfl
@[simp] theorem State.setContour_alert (c : Fin Config.contours) (r : Option Contour) :
    (s.setContour c r).alert = s.alert := rfl

/-! ### `State.modSegment` -/

@[simp] theorem State.modSegment_pending (n : Nat) (f : Segment → Segment) :
    (s.modSegment n f).pending = s.pending := rfl
@[simp] theorem State.modSegment_lines (n : Nat) (f : Segment → Segment) : (s.modSegment n f).lines = s.lines := rfl
@[simp] theorem State.modSegment_ports (n : Nat) (f : Segment → Segment) : (s.modSegment n f).ports = s.ports := rfl
@[simp] theorem State.modSegment_setups (n : Nat) (f : Segment → Segment) :
    (s.modSegment n f).setups = s.setups := rfl
@[simp] theorem State.modSegment_cyc (n : Nat) (f : Segment → Segment) : (s.modSegment n f).cyc = s.cyc := rfl
@[simp] theorem State.modSegment_homing (n : Nat) (f : Segment → Segment) :
    (s.modSegment n f).homing = s.homing := rfl
@[simp] theorem State.modSegment_jog (n : Nat) (f : Segment → Segment) : (s.modSegment n f).jog = s.jog := rfl
@[simp] theorem State.modSegment_path (n : Nat) (f : Segment → Segment) : (s.modSegment n f).path = s.path := rfl
@[simp] theorem State.modSegment_axes (n : Nat) (f : Segment → Segment) : (s.modSegment n f).axes = s.axes := rfl
@[simp] theorem State.modSegment_zmotion (n : Nat) (f : Segment → Segment) :
    (s.modSegment n f).zmotion = s.zmotion := rfl
@[simp] theorem State.modSegment_jet (n : Nat) (f : Segment → Segment) : (s.modSegment n f).jet = s.jet := rfl
@[simp] theorem State.modSegment_alert (n : Nat) (f : Segment → Segment) : (s.modSegment n f).alert = s.alert := rfl

/-! ### `State.dropSegments` -/

@[simp] theorem State.dropSegments_pending (gone : Segment → Bool) : (s.dropSegments gone).pending = s.pending := rfl
@[simp] theorem State.dropSegments_lines (gone : Segment → Bool) : (s.dropSegments gone).lines = s.lines := rfl
@[simp] theorem State.dropSegments_ports (gone : Segment → Bool) : (s.dropSegments gone).ports = s.ports := rfl
@[simp] theorem State.dropSegments_setups (gone : Segment → Bool) : (s.dropSegments gone).setups = s.setups := rfl
@[simp] theorem State.dropSegments_cyc (gone : Segment → Bool) : (s.dropSegments gone).cyc = s.cyc := rfl
@[simp] theorem State.dropSegments_homing (gone : Segment → Bool) : (s.dropSegments gone).homing = s.homing := rfl
@[simp] theorem State.dropSegments_jog (gone : Segment → Bool) : (s.dropSegments gone).jog = s.jog := rfl
@[simp] theorem State.dropSegments_path (gone : Segment → Bool) : (s.dropSegments gone).path = s.path := rfl
@[simp] theorem State.dropSegments_axes (gone : Segment → Bool) : (s.dropSegments gone).axes = s.axes := rfl
@[simp] theorem State.dropSegments_zmotion (gone : Segment → Bool) : (s.dropSegments gone).zmotion = s.zmotion := rfl
@[simp] theorem State.dropSegments_jet (gone : Segment → Bool) : (s.dropSegments gone).jet = s.jet := rfl
@[simp] theorem State.dropSegments_alert (gone : Segment → Bool) : (s.dropSegments gone).alert = s.alert := rfl

/-! ### `State.onPort` -/

@[simp] theorem State.onPort_pending (p : Port) (f : PortState → PortState) :
    (s.onPort p f).pending = s.pending := rfl
@[simp] theorem State.onPort_lines (p : Port) (f : PortState → PortState) : (s.onPort p f).lines = s.lines := rfl
@[simp] theorem State.onPort_prog (p : Port) (f : PortState → PortState) : (s.onPort p f).prog = s.prog := rfl
@[simp] theorem State.onPort_setups (p : Port) (f : PortState → PortState) : (s.onPort p f).setups = s.setups := rfl
@[simp] theorem State.onPort_cyc (p : Port) (f : PortState → PortState) : (s.onPort p f).cyc = s.cyc := rfl
@[simp] theorem State.onPort_homing (p : Port) (f : PortState → PortState) : (s.onPort p f).homing = s.homing := rfl
@[simp] theorem State.onPort_jog (p : Port) (f : PortState → PortState) : (s.onPort p f).jog = s.jog := rfl
@[simp] theorem State.onPort_path (p : Port) (f : PortState → PortState) : (s.onPort p f).path = s.path := rfl
@[simp] theorem State.onPort_axes (p : Port) (f : PortState → PortState) : (s.onPort p f).axes = s.axes := rfl
@[simp] theorem State.onPort_zmotion (p : Port) (f : PortState → PortState) :
    (s.onPort p f).zmotion = s.zmotion := rfl
@[simp] theorem State.onPort_jet (p : Port) (f : PortState → PortState) : (s.onPort p f).jet = s.jet := rfl
@[simp] theorem State.onPort_alert (p : Port) (f : PortState → PortState) : (s.onPort p f).alert = s.alert := rfl

/-! ### `State.modContour` -/

@[simp] theorem State.modContour_pending (c : Fin Config.contours) (f : Contour → Contour) : (s.modContour c f).pending = s.pending := by
  unfold State.modContour
  split <;> rfl

@[simp] theorem State.modContour_lines (c : Fin Config.contours) (f : Contour → Contour) : (s.modContour c f).lines = s.lines := by
  unfold State.modContour
  split <;> rfl

@[simp] theorem State.modContour_ports (c : Fin Config.contours) (f : Contour → Contour) : (s.modContour c f).ports = s.ports := by
  unfold State.modContour
  split <;> rfl

@[simp] theorem State.modContour_setups (c : Fin Config.contours) (f : Contour → Contour) : (s.modContour c f).setups = s.setups := by
  unfold State.modContour
  split <;> rfl

@[simp] theorem State.modContour_cyc (c : Fin Config.contours) (f : Contour → Contour) : (s.modContour c f).cyc = s.cyc := by
  unfold State.modContour
  split <;> rfl

@[simp] theorem State.modContour_homing (c : Fin Config.contours) (f : Contour → Contour) : (s.modContour c f).homing = s.homing := by
  unfold State.modContour
  split <;> rfl

@[simp] theorem State.modContour_jog (c : Fin Config.contours) (f : Contour → Contour) : (s.modContour c f).jog = s.jog := by
  unfold State.modContour
  split <;> rfl

@[simp] theorem State.modContour_path (c : Fin Config.contours) (f : Contour → Contour) : (s.modContour c f).path = s.path := by
  unfold State.modContour
  split <;> rfl

@[simp] theorem State.modContour_axes (c : Fin Config.contours) (f : Contour → Contour) : (s.modContour c f).axes = s.axes := by
  unfold State.modContour
  split <;> rfl

@[simp] theorem State.modContour_zmotion (c : Fin Config.contours) (f : Contour → Contour) : (s.modContour c f).zmotion = s.zmotion := by
  unfold State.modContour
  split <;> rfl

@[simp] theorem State.modContour_jet (c : Fin Config.contours) (f : Contour → Contour) : (s.modContour c f).jet = s.jet := by
  unfold State.modContour
  split <;> rfl

@[simp] theorem State.modContour_alert (c : Fin Config.contours) (f : Contour → Contour) : (s.modContour c f).alert = s.alert := by
  unfold State.modContour
  split <;> rfl

/-! ### `State.modActive` -/

@[simp] theorem State.modActive_pending (f : Contour → Contour) : (s.modActive f).pending = s.pending := by
  unfold State.modActive
  split
  · rfl
  · exact State.modContour_pending _ _ _

@[simp] theorem State.modActive_lines (f : Contour → Contour) : (s.modActive f).lines = s.lines := by
  unfold State.modActive
  split
  · rfl
  · exact State.modContour_lines _ _ _

@[simp] theorem State.modActive_ports (f : Contour → Contour) : (s.modActive f).ports = s.ports := by
  unfold State.modActive
  split
  · rfl
  · exact State.modContour_ports _ _ _

@[simp] theorem State.modActive_setups (f : Contour → Contour) : (s.modActive f).setups = s.setups := by
  unfold State.modActive
  split
  · rfl
  · exact State.modContour_setups _ _ _

@[simp] theorem State.modActive_cyc (f : Contour → Contour) : (s.modActive f).cyc = s.cyc := by
  unfold State.modActive
  split
  · rfl
  · exact State.modContour_cyc _ _ _

@[simp] theorem State.modActive_homing (f : Contour → Contour) : (s.modActive f).homing = s.homing := by
  unfold State.modActive
  split
  · rfl
  · exact State.modContour_homing _ _ _

@[simp] theorem State.modActive_jog (f : Contour → Contour) : (s.modActive f).jog = s.jog := by
  unfold State.modActive
  split
  · rfl
  · exact State.modContour_jog _ _ _

@[simp] theorem State.modActive_path (f : Contour → Contour) : (s.modActive f).path = s.path := by
  unfold State.modActive
  split
  · rfl
  · exact State.modContour_path _ _ _

@[simp] theorem State.modActive_axes (f : Contour → Contour) : (s.modActive f).axes = s.axes := by
  unfold State.modActive
  split
  · rfl
  · exact State.modContour_axes _ _ _

@[simp] theorem State.modActive_zmotion (f : Contour → Contour) : (s.modActive f).zmotion = s.zmotion := by
  unfold State.modActive
  split
  · rfl
  · exact State.modContour_zmotion _ _ _

@[simp] theorem State.modActive_jet (f : Contour → Contour) : (s.modActive f).jet = s.jet := by
  unfold State.modActive
  split
  · rfl
  · exact State.modContour_jet _ _ _

@[simp] theorem State.modActive_alert (f : Contour → Contour) : (s.modActive f).alert = s.alert := by
  unfold State.modActive
  split
  · rfl
  · exact State.modContour_alert _ _ _

/-! ### One axis, one port, one contour -/

@[simp] theorem PerAxis.get_set_same {α : Type} (p : PerAxis α) (a : Axis) (v : α) : (p.set a v).get a = v := by
  cases a <;> rfl

theorem PerAxis.get_set_other {α : Type} (p : PerAxis α) (a b : Axis) (v : α) (h : b ≠ a) :
    (p.set a v).get b = p.get b := by
  cases a <;> cases b <;> first | rfl | exact absurd rfl h

/-- Values that agree on every axis are equal. -/
theorem PerAxis.eq_of_get {α : Type} (p q : PerAxis α) (h : ∀ a, p.get a = q.get a) : p = q := by
  cases p
  cases q
  have hx := h .x
  have hy := h .y
  have hz := h .z
  simp_all [PerAxis.get]

@[simp] theorem State.onAxis_chan_same (a : Axis) (f : Channel → Channel) : (s.onAxis a f).chan a = f (s.chan a) :=
  PerAxis.get_set_same s.axes a _

theorem State.onAxis_chan_other (a b : Axis) (f : Channel → Channel) (h : b ≠ a) : (s.onAxis a f).chan b = s.chan b :=
  PerAxis.get_set_other s.axes a b _ h

@[simp] theorem State.onPort_port_same (p : Port) (f : PortState → PortState) :
    (s.onPort p f).ports.port p = f (s.ports.port p) := by
  cases p <;> rfl

theorem State.onPort_port_other (p q : Port) (f : PortState → PortState) (h : q ≠ p) :
    (s.onPort p f).ports.port q = s.ports.port q := by
  cases p <;> cases q <;> first | rfl | exact absurd rfl h

@[simp] theorem State.setContour_same (c : Fin Config.contours) (r : Option Contour) :
    (s.setContour c r).contour? c = r := by
  simp [State.setContour, State.contour?]

theorem State.setContour_other (c d : Fin Config.contours) (r : Option Contour) (h : d ≠ c) :
    (s.setContour c r).contour? d = s.contour? d := by
  have : (c : Nat) ≠ d := fun e => h (Fin.ext e.symm)
  simp [State.setContour, State.contour?, this]

/-- Changing a record maps it where it is not FREE. -/
@[simp] theorem State.modContour_same (c : Fin Config.contours) (f : Contour → Contour) :
    (s.modContour c f).contour? c = (s.contour? c).map f := by
  unfold State.modContour
  split <;> simp_all

/-- Changing a record leaves every other one. -/
theorem State.modContour_other (c d : Fin Config.contours) (f : Contour → Contour) (h : d ≠ c) :
    (s.modContour c f).contour? d = s.contour? d := by
  unfold State.modContour
  split
  · rfl
  · exact State.setContour_other s c d _ h

end Sys2Proof.Machine
end

