-- ==== Sys2Proof/Laws/Ops.lean ====
section
/-! SUPPORT. For each operation that several commands share, one lemma that says once everything it does; proofs cite it
and do not unfold the operation. -/

namespace Sys2Proof.Machine

variable (s : State)

/-! ### The part in reset -/

@[simp] theorem live_live (f : State → State) (h : Live s) : live f s = f s := by simp [live, h]

@[simp] theorem live_held (f : State → State) (h : s.lines.held = true) : live f s = s := by simp [live, h]

/-! ### The demand, the band and the closing of the jet (R92 to R96) -/

/-- The band state after the demand is formed again (R96). -/
def bandAfter (demand : Nat) (s : State) : Bool :=
  if demand = s.jet.demand then s.jet.bandIn else bandOf s demand s.lines.pfb

theorem reformDemand_eq :
    reformDemand s = { s with jet := { s.jet with demand := demandOf s, bandIn := bandAfter (demandOf s) s } } := by
  unfold reformDemand bandAfter
  by_cases h : demandOf s = s.jet.demand
  · simp [h]
  · simp [h, State.onJet]

/-- The demand of a closed jet (R93). -/
def closedDemand (s : State) : Nat := if preCharge s.cyc then (s.activeSet.map (·.pPierce)).getD 0 else 0

/-- Closing the jet changes the Jet Controller alone: CLOSED, every timer stopped, the demand of R93. -/
theorem closeJet_eq :
    closeJet s
      = { s with jet := { s.jet.shut (bandAfter (closedDemand s) s) with demand := closedDemand s } } := by
  have hd : ∀ j : Jet, j.state = .closed → demandOf { s with jet := j } = closedDemand s := by
    intro j hj
    have : demandOf { s with jet := j } = match s.activeSet with
        | none => 0
        | some f => if preCharge s.cyc then f.pPierce else 0 := by
      simp only [demandOf, hj]
      rfl
    rw [this, closedDemand]
    cases s.activeSet <;> simp
  simp [closeJet, reformDemand_eq, State.onJet, hd, Jet.shut, bandAfter, bandOf]

/-- Outside the pre-charge the closed jet has demand 0. -/
theorem closeJet_shut (h : preCharge s.cyc = false) :
    closeJet s = { s with jet := s.jet.shut (bandAfter 0 s) } := by
  simp [closeJet_eq, closedDemand, h, Jet.shut]

theorem closeJet_atRest : (closeJet s).jet.AtRest := by
  simp [closeJet_eq, Jet.shut, Jet.AtRest]

@[simp] theorem closeJet_cyc : (closeJet s).cyc = s.cyc := by rw [closeJet_eq]

@[simp] theorem closeJet_prog : (closeJet s).prog = s.prog := by rw [closeJet_eq]

/-! ### Machine state and phase -/

/-- Entering a machine state and phase in which the valves are closed closes the jet (R92). -/
theorem enterState_closed (m : MachineState) (ph : Option Phase)
    (h : valvesAllowed { s.cyc with mstate := m, phase := ph } = false) :
    enterState m ph s = closeJet { s with cyc := { s.cyc with mstate := m, phase := ph } } := by
  simp [enterState, State.onCyc, h]

/-- Entering one in which they may be open forms the demand again (R93). -/
theorem enterState_open (m : MachineState) (ph : Option Phase)
    (h : valvesAllowed { s.cyc with mstate := m, phase := ph } = true) :
    enterState m ph s = reformDemand { s with cyc := { s.cyc with mstate := m, phase := ph } } := by
  simp [enterState, State.onCyc, h]

/-! ### Contours that leave (R11 to R13) -/

theorem dropActive_none (f : Contour → Contour) (h : s.cyc.active = none) : dropActive f s = s := by
  simp [dropActive, h]

/-- The active contour leaves with its segments and the cursor; its record is changed. -/
theorem dropActive_some (f : Contour → Contour) (c : Fin Config.contours) (h : s.cyc.active = some c) :
    dropActive f s = { s with
      prog := { s.prog with
        contours := s.prog.contours.set c ((s.contour? c).map f)
        segments := s.prog.segments.filter fun g => g.contour != c }
      cyc := { s.cyc with active := none }
      path := { s.path with cursor := none, speedSq := 0, motion := .rest } } := by
  have hs : ∀ v : Vector (Option Contour) Config.contours, v[c] = none → v.set c none = v := by
    intro v hv
    refine Vector.ext fun i hi => ?_
    by_cases e : (c : Nat) = i
    · subst e
      rw [Vector.getElem_set_self]
      exact hv.symm
    · simp [Vector.getElem_set_ne, e]
  simp only [dropActive, h, State.modContour]
  cases hc : s.contour? c with
  | none =>
    have := hs s.prog.contours hc
    simp [State.dropSegments, State.onProg, State.onCyc, State.onPath, this, bne]
  | some r => simp [State.setContour, State.dropSegments, State.onProg, State.onCyc, State.onPath, bne]

/-- The end of a cycle: IDLE with the jet shut and the cycle's marks cleared (R111, R122, R123, R128, R132). -/
theorem endCycle_eq :
    endCycle s = { s with
      jet := s.jet.shut (bandAfter 0 s)
      cyc := { s.cyc with mstate := .idle, phase := none, hold := none, deferredHold := false, abortPending := false
                          suspension := false } } := by
  rw [endCycle, closeJet_shut _ (by simp [preCharge])]
  rfl

/-! ### Wear limits (R109) -/

/-- The mark that the test of a wear limit gives; without a Machine Setup no limit is reached (R109). -/
def wearMark (limit : MachineSetup → Nat) (v : Nat) : Bool :=
  match s.setups.setup with
  | none => false
  | some m => wearReached (limit m) v

/-- The record after a test of one limit: WEAR is raised where the limit is newly reached. -/
def wearAlert (a : Accumulator) (newly : Bool) (r : Option AlertRecord) : Option AlertRecord :=
  if newly then some (recordAlert .wear { accumulator := some a } (alertContext s) r) else r

/-- The test of both limits changes the two marks, the cycle-stop flag and the alert record alone (R109, entry 33). -/
theorem testWear_eq :
    testWear s =
      let t := wearMark s (·.jetTimeLimit) (s.jet.jetTime / 1000)
      let n := wearMark s (·.pierceCountLimit) s.jet.pierceCount
      let newT := t && !s.jet.wearJetTime
      let newN := n && !s.jet.wearPierceCount
      { s with
        jet := { s.jet with wearJetTime := t, wearPierceCount := n }
        cyc := { s.cyc with cycleStop := s.cyc.cycleStop || newT || newN }
        alert := wearAlert s .pierceCount newN (wearAlert s .jetTime newT s.alert) } := by
  have h : ∀ t n : Bool,
      (let u := s.onJet fun j => { j with wearJetTime := t, wearPierceCount := n }
       let u := if t && !s.jet.wearJetTime then raiseWear .jetTime u else u
       if n && !s.jet.wearPierceCount then raiseWear .pierceCount u else u)
      = { s with
        jet := { s.jet with wearJetTime := t, wearPierceCount := n }
        cyc := { s.cyc with cycleStop := s.cyc.cycleStop || (t && !s.jet.wearJetTime) || (n && !s.jet.wearPierceCount) }
        alert := wearAlert s .pierceCount (n && !s.jet.wearPierceCount)
          (wearAlert s .jetTime (t && !s.jet.wearJetTime) s.alert) } := by
    intro t n
    cases ht : t && !s.jet.wearJetTime <;> cases hn : n && !s.jet.wearPierceCount <;>
      simp [raiseWear, raiseAlert, wearAlert, alertContext, State.onJet, State.onCyc, State.setAlert]
  exact h _ _
/-! ### Rest -/

/-- Whether the path stands still depends on the Profile Generator's items and the segments alone. -/
theorem pathStill_congr {s t : State} (hp : t.path = s.path) (hs : t.prog.segments = s.prog.segments) :
    pathStill t = pathStill s := by
  simp [pathStill, heldStill, State.cursorSegment, State.segment?, hp, hs]

/-- A path that rests stands still, and one in hold deceleration does not. -/
theorem pathStill_rest (h : s.path.motion = .rest) : pathStill s = true := by simp [pathStill, h]

theorem pathStill_decel (h : s.path.motion = .decel) : pathStill s = false := by
  unfold pathStill heldStill
  cases s.cursorSegment <;> simp [h]

/-- A path that was told to stop is at rest where it stood still. -/
theorem atRest_stopped (b : Bool) (h : s.path.motion = if b then .rest else .decel) :
    atRest s = (b && s.zmotion == .rest) := by
  cases b
  · simp [atRest, pathStill_decel s h]
  · simp [atRest, pathStill_rest s h]

theorem settleRest_moving (h : atRest s = false) : settleRest s = s := by simp [settleRest, h]

theorem settleRest_abort (h : atRest s = true) (ha : s.cyc.abortPending = true) :
    settleRest s = abandonByAbort s := by
  simp [settleRest, h, ha]

/-- Rest in HOLDING is HELD with the stop point and the jet shut (R134). -/
theorem settleRest_holding (h : atRest s = true) (ha : s.cyc.abortPending = false) (hm : s.cyc.mstate = .holding) :
    settleRest s = { s with
      jet := s.jet.shut (bandAfter 0 s)
      cyc := { s.cyc with mstate := .held, hold := s.cyc.hold.map fun h => { h with stop := stopPoint s } } } := by
  unfold settleRest
  rw [if_neg (by simp [h]), if_neg (by simp [ha]), if_pos hm, enterState_closed _ _ _ (by simp [valvesAllowed]),
    closeJet_shut _ (by simp [preCharge])]
  rfl

theorem settleRest_other (ha : s.cyc.abortPending = false) (hm : s.cyc.mstate ≠ .holding) : settleRest s = s := by
  simp [settleRest, ha, hm]

/-- Bringing motion to rest changes the path motion and the Z motion alone (R79, R89, R90). -/
theorem stopMotion_eq :
    stopMotion s = { s with
      path := { s.path with motion := if pathStill s then .rest else .decel }, zmotion := s.zmotion.halted } := by
  cases h : s.zmotion <;> simp [stopMotion, State.onPath, State.setZ, ZMotion.halted, h]

theorem stopMotion_of {b : Bool} (h : pathStill s = b) :
    stopMotion s = { s with
      path := { s.path with motion := if b then .rest else .decel }, zmotion := s.zmotion.halted } := by
  subst h
  exact stopMotion_eq s

/-! ### Holds and faults -/

theorem raiseHoldAlert_eq (cause : HoldCause) (d : AlertDetail) (x : AlertContext) :
    raiseHoldAlert cause d x s = { s with
      alert := match cause.alert with
        | none => s.alert
        | some code => some (recordAlert code d x s.alert) } := by
  cases cause <;> rfl

/-- Changing the active contour's record changes the Program Store alone. -/
theorem State.modActive_eq (f : Contour → Contour) : s.modActive f = { s with prog := (s.modActive f).prog } := by
  unfold State.modActive State.modContour
  split
  · rfl
  · split <;> rfl

/-- The Program Store after that depends on the store and the active contour alone. -/
theorem State.modActive_prog (t : State) (f : Contour → Contour) (hp : s.prog = t.prog)
    (hc : s.cyc.active = t.cyc.active) : (s.modActive f).prog = (t.modActive f).prog := by
  unfold State.modActive State.modContour State.setContour State.onProg State.contour?
  rw [hc, hp]
  split
  · exact hp
  · split
    · exact hp
    · simp

/-- The segments, the Run List and the counters of the Program Store stay. -/
theorem State.modActive_segments (f : Contour → Contour) : (s.modActive f).prog.segments = s.prog.segments := by
  unfold State.modActive State.modContour
  split
  · rfl
  · split <;> rfl

/-- The hold record is written without its stop point, which the coming to rest adds (R133, R134). -/
theorem newHoldRecord_eq (cause : HoldCause) : newHoldRecord cause s = { writtenHold cause s with stop := none } := by
  unfold newHoldRecord writtenHold
  dsimp only
  generalize (if s.cyc.mstate = .resuming then s.cyc.hold else none) = kept
  cases kept <;> rfl

theorem writtenHold_stop (cause : HoldCause) :
    (writtenHold cause s).stop = if atRest s then stopPoint s else none := by
  unfold writtenHold
  dsimp only
  generalize (if s.cyc.mstate = .resuming then s.cyc.hold else none) = kept
  cases kept <;> rfl

/-- A hold taken with no ABORT pending leaves what `HoldTaken` says (R133, R134, R136). -/
theorem takeHold_taken (cause : HoldCause) (d : AlertDetail) (ha : s.cyc.abortPending = false) :
    HoldTaken cause d s (takeHold cause d s) := by
  have hrec := newHoldRecord_eq s cause
  have hu : ∃ b, takeHold cause d s = settleRest { s with
      jet := s.jet.shut b
      cyc := { s.cyc with
        mstate := .holding, hold := some { writtenHold cause s with stop := none }, deferredHold := false }
      prog := (s.modActive Contour.countHold).prog
      path := { s.path with motion := if pathStill s then .rest else .decel }
      zmotion := s.zmotion.halted
      alert := holdAlert cause d s } := by
    unfold takeHold
    simp only [closeJet_eq s, State.onCyc, hrec]
    rw [State.modActive_eq, State.modActive_prog _ s Contour.countHold (by rfl) (by rfl),
      enterState_closed _ _ _ (by simp [valvesAllowed]), closeJet_shut _ (by simp [preCharge])]
    rw [stopMotion_of (b := pathStill s), raiseHoldAlert_eq]
    · exact ⟨_, rfl⟩
    · exact pathStill_congr rfl (State.modActive_segments s Contour.countHold)
  obtain ⟨b, hu⟩ := hu
  rw [hu]
  have hw := writtenHold_stop s cause
  by_cases hr : atRest s = true
  · obtain ⟨hp, hz⟩ : pathStill s = true ∧ s.zmotion = .rest := by simpa [atRest] using hr
    rw [settleRest_holding]
    · have hs : stopPoint { s with
          jet := s.jet.shut b
          cyc := { s.cyc with
            mstate := .holding, hold := some { writtenHold cause s with stop := none }, deferredHold := false }
          prog := (s.modActive Contour.countHold).prog
          path := { s.path with motion := if pathStill s then .rest else .decel }
          zmotion := s.zmotion.halted
          alert := holdAlert cause d s } = (writtenHold cause s).stop := by
        rw [hw, if_pos hr]
        simp [stopPoint, State.activeJets, State.activeSegments, State.segmentsOf, State.modActive_segments]
      rw [hs]
      simp [HoldTaken, hr, hp, hz, ZMotion.halted, Jet.shut]
      rfl
    · rw [atRest_stopped _ (pathStill s) rfl]
      simp [hp, hz, ZMotion.halted]
    · exact ha
    · rfl
  · rw [settleRest_moving]
    · have hs : ({ writtenHold cause s with stop := none } : HoldRecord) = writtenHold cause s := by
        rw [if_neg hr] at hw
        exact congrArg (fun x => { writtenHold cause s with stop := x }) hw.symm
      rw [hs]
      simp [HoldTaken, hr, Jet.shut]
      rfl
    · rw [atRest_stopped _ (pathStill s) rfl]
      cases hz : s.zmotion <;> cases hp : pathStill s <;> simp_all [atRest, ZMotion.halted]

theorem trackAll_eq : trackAll s = { s with axes := ⟨s.axes.x.track, s.axes.y.track, s.axes.z.track⟩ } := rfl

/-- The test of the fault cause in FAULT with no jog axis leaves the cause that R151 gives. -/
theorem retestCause_fault (fc : FaultCause) (hm : s.cyc.mstate = .fault) (hj : s.jog.axis = none)
    (hf : s.cyc.faultCause = some fc) :
    retestCause s = { s with cyc := { s.cyc with faultCause := some (causeLeft fc s.lines) } } := by
  obtain ⟨_, l, _, _, _, y, _, _, _, _, _, _, _⟩ := s
  obtain ⟨_, _, _, _, _, _, _, _, _, _, _⟩ := y
  simp only at hm hj hf
  subst hm hf
  unfold retestCause causeLeft
  simp only [hj]
  cases h : l.firstLimit <;> by_cases hp : fc.present l = true <;> simp [hp, State.onCyc]

theorem retestCause_other (hm : s.cyc.mstate ≠ .fault) : retestCause s = s := by
  unfold retestCause
  split <;> simp_all

/-- The fault action (R149) leaves what `FaultTaken` says. -/
theorem enterFault_taken (fc : FaultCause) : FaultTaken fc s (enterFault fc s) := by
  have hj : ∀ (b b' : Bool) (j : Jet), Jet.shut b (Jet.shut b' j) = Jet.shut b j := fun _ _ _ => rfl
  unfold enterFault
  simp only [clearHomed, trackAll_eq, State.onCyc, State.onPath, State.setZ, State.onHoming, State.onJog, State.onAxes]
  cases ha : s.cyc.active with
  | none =>
    rw [dropActive_none s _ ha, closeJet_shut _ (by simp [preCharge]), retestCause_fault _ fc rfl rfl rfl]
    simp [raiseAlert, State.setAlert, alertContext, programAbandoned, ha, Channel.track, Channel.faulted, Jet.shut]
  | some c =>
    rw [dropActive_some s _ c ha, closeJet_shut _ (by simp [preCharge]), retestCause_fault _ fc rfl rfl rfl]
    simp [raiseAlert, State.setAlert, alertContext, programAbandoned, ha, Channel.track, Channel.faulted, Jet.shut]
    rfl

theorem faultAction_taken (fc : FaultCause) (h : s.cyc.mstate ≠ .fault) : FaultTaken fc s (faultAction fc s) := by
  simpa [faultAction, h] using enterFault_taken s fc

/-- In FAULT a fault cause raises its alert only (R147, R152). -/
theorem faultAction_fault (fc : FaultCause) (h : s.cyc.mstate = .fault) :
    faultAction fc s = { s with alert := some (recordAlert fc.code fc.detail (alertContext s) s.alert) } := by
  simp [faultAction, h, raiseAlert, State.setAlert]

/-- The following check passes while the deviation is within the following limit (R85). -/
theorem followingCheck_within (a : Axis) (m : MachineSetup) (hm : s.setups.setup = some m)
    (h : (s.chan a).deviation.natAbs ≤ (m.axes.get a).followingLimit) : followingCheck a s = s := by
  have : beyondLimit s a = false := by simp [beyondLimit, hm, h]
  simp [followingCheck, this]

/-- With every deviation within its limit, the check of the three axes changes nothing. -/
theorem followingCheckAll_within (h : ∀ a, beyondLimit s a = false) : followingCheckAll s = s := by
  simp [followingCheckAll, h]

/-! ### Motion (R72, R73, R82, R89) -/

/-- A speed under `slew` changes no faster than the acceleration, and rises no higher than the ceiling. -/
theorem slew_bounds (a ceiling n v : Nat) :
    v - 2 * a * n ≤ slew a ceiling n v ∧ slew a ceiling n v ≤ v + 2 * a * n
      ∧ slew a ceiling n v ≤ max v (ceiling * ceiling) := by
  simp only [slew, fallen, risen]
  omega

/-- A motion toward a rest point changes its speed no faster than the acceleration. -/
theorem approachSpeed_bounds (acc vMax n v : Nat) :
    v - 2 * acc ≤ approachSpeed acc vMax n v ∧ approachSpeed acc vMax n v ≤ v + 2 * acc := by
  have := slew_bounds acc vMax 1 v
  simp only [approachSpeed, fallen] at *
  omega

/-- A JOG_STEP that still decelerates falls at the axis acceleration and goes on its way (R169). -/
theorem stepToTarget_slowing (acc vMax : Nat) (t : Int) (c : Channel) (h : 2 * acc ≤ c.speedSq) :
    stepToTarget acc vMax t true c = (c.stepped c.dir (fallen acc 1 c.speedSq), true) := by
  simp [stepToTarget, coast, h]

/-- Otherwise it moves toward its target, from rest where it has just decelerated. -/
theorem stepToTarget_going (acc vMax : Nat) (t : Int) (slowing : Bool) (c : Channel)
    (h : slowing = false ∨ c.speedSq < 2 * acc) :
    stepToTarget acc vMax t slowing c
      = (stepToward acc vMax t (if slowing then { c with speedSq := 0 } else c), false) := by
  rcases h with rfl | h
  · simp [stepToTarget]
  · cases slowing <;> simp [stepToTarget, Nat.not_le.2 h]

/-- A step of the cursor leaves the axes as they are. -/
@[simp] theorem cursorStep_axes : (cursorStep s).axes = s.axes := by
  unfold cursorStep
  repeat' split
  all_goals rfl

@[simp] theorem cursorToPulse_axes (n : Nat) : (cursorToPulse n s).axes = s.axes := by
  induction n generalizing s with
  | zero => rfl
  | succ n ih =>
    simp only [cursorToPulse]
    split
    · simp
    · simp [ih]

/-- A micrometre of the cursor changes the Profile Generator's items alone. -/
theorem cursorStep_path : ∃ p, cursorStep s = { s with path := p } := by
  unfold cursorStep
  split
  · dsimp only
    repeat' split
    all_goals exact ⟨_, rfl⟩
  · exact ⟨_, rfl⟩

/-- The micrometres that bring no pulse change the Profile Generator's items alone. -/
theorem cursorFree_path (n : Nat) : ∃ p, cursorFree n s = { s with path := p } := by
  induction n generalizing s with
  | zero => exact ⟨_, rfl⟩
  | succ n ih =>
    obtain ⟨p, hp⟩ := cursorStep_path s
    obtain ⟨q, hq⟩ := ih (cursorStep s)
    simp only [cursorFree]
    split
    · exact ⟨s.path, rfl⟩
    · exact ⟨q, by rw [hq, hp]⟩

/-- Where the speed carries the cursor no further there are none. -/
theorem cursorFree_spent (n : Nat) (h : cursorStep s = s) : cursorFree n s = s := by
  induction n with
  | zero => rfl
  | succ n ih => simp [cursorFree, h, ih]

/-- A step toward the point of the cursor moves its own axis alone. -/
theorem stepToPoint_other (a b : Axis) (h : b ≠ a) : (stepToPoint a s).chan b = s.chan b := by
  unfold stepToPoint
  split
  · rfl
  · exact State.onAxis_chan_other s a b _ h

theorem stepToPoint_one (a : Axis) : (((stepToPoint a s).chan a).command - (s.chan a).command).natAbs ≤ 1 := by
  unfold stepToPoint
  split
  · simp
  · rw [State.onAxis_chan_same]
    simp only [Channel.pulse]
    split <;> omega

/-- A step pulse under the path moves its own axis by at most a micrometre, and no other axis (R82). -/
theorem pathPulse_axes (a : Axis) :
    (∀ b, b ≠ a → (pathPulse a s).chan b = s.chan b)
      ∧ (((pathPulse a s).chan a).command - (s.chan a).command).natAbs ≤ 1 := by
  have hc : ∀ b, (cursorToPulse 4 s).chan b = s.chan b := fun b => by simp [State.chan]
  unfold pathPulse
  refine ⟨fun b hb => ?_, ?_⟩
  · split
    · exact stepToPoint_other s a b hb
    · split
      · rfl
      · dsimp only
        split
        · rw [stepToPoint_other _ a b hb, hc]
        · rfl
  · split
    · exact stepToPoint_one s a
    · split
      · simp
      · dsimp only
        split
        · rw [← hc a]
          exact stepToPoint_one _ a
        · simp

/-! ### Serving a request (R185 to R187) -/

/-- A SEAL that does not wait is answered as it stands. -/
@[simp] theorem sealAnswer_queued (items : List Item) (h : inWait s = false) :
    sealAnswer items s = accepted items s := by simp [sealAnswer, h]

/-- In RUNNING WAIT the reply is formed from the state that the continuation gives, and the approach follows. -/
theorem sealAnswer_waiting (items : List Item) (h : inWait s = true) :
    sealAnswer items s = { accepted items (continuationWith id s) with after := approachTaken } := by
  simp [sealAnswer, h]

@[simp] theorem sealAnswer_status (items : List Item) : (sealAnswer items s).status = .ok := by
  unfold sealAnswer
  split <;> rfl

@[simp] theorem sealAnswer_items (items : List Item) : (sealAnswer items s).items = items := by
  unfold sealAnswer
  split <;> rfl

theorem serve_held (p : Port) (tag : Byte) (r : Request) (answer : State → Answer) (h : s.lines.held = true) :
    serve p tag r answer s = s := by simp [serve, live, h]

/-- A port that discards the request changes in its receiver alone. -/
theorem serve_discarded (p : Port) (tag : Byte) (r : Request) (answer : State → Answer) (hl : Live s)
    (hd : discards s p = true) : serve p tag r answer s = frameEnded p s := by
  have : discards (frameEnded p s) p = true := by
    cases p <;> simpa [discards, frameEnded, State.onPort, State.onPorts, Ports.port] using hd
  simp [serve, live, hl, this]

/-- A request that the Access Check admits is answered by its owning block. -/
theorem serve_taken (p : Port) (tag : Byte) (r : Request) (answer : State → Answer) (h : Takes s p r) :
    serve p tag r answer s
      = (answer (frameEnded p s)).after (sendReply p tag (answer (frameEnded p s)).status
          (answer (frameEnded p s)).items (answer (frameEnded p s)).next) := by
  obtain ⟨⟨hl, hd⟩, ha⟩ := h
  have hd' : discards (frameEnded p s) p = false := by
    cases p <;> simpa [discards, frameEnded, State.onPort, State.onPorts, Ports.port] using hd
  have ha' : r.access.admits p (frameEnded p s).ports.keyMode (frameEnded p s).cyc.mstate = true := by
    cases p <;> exact ha
  simp [serve, live, hl, hd', takeRequest, ha']

/-- One that it does not admit is answered NOT_PERMITTED. -/
theorem serve_refused (p : Port) (tag : Byte) (r : Request) (answer : State → Answer) (h : Ready s p)
    (hn : ¬ Admits s p r) : serve p tag r answer s = sendReply p tag .notPermitted [] (frameEnded p s) := by
  obtain ⟨hl, hd⟩ := h
  have hd' : discards (frameEnded p s) p = false := by
    cases p <;> simpa [discards, frameEnded, State.onPort, State.onPorts, Ports.port] using hd
  have ha' : ¬ r.access.admits p (frameEnded p s).ports.keyMode (frameEnded p s).cyc.mstate = true := by
    cases p <;> exact hn
  simp [serve, live, hl, hd', takeRequest, ha']

/-! ### Z moves (R89) -/

theorem nameZMove_away (t : Int) (purpose : ZPurpose) (go : State → State) (h : (s.chan .z).command ≠ t) :
    nameZMove t purpose go s
      = { s with axes := { s.axes with z := { s.axes.z with speedSq := 0 } }, zmotion := .moving t purpose } := by
  simp only [nameZMove, h, if_false]
  rfl

theorem zArrived_plain (go : State → State) (h : s.cyc.suspension = false) : zArrived go s = go s := by
  simp [zArrived, h]

end Sys2Proof.Machine
end

