-- ==== Sys2Proof/Laws/PerInstr.lean ====
section
/-! SUPPORT. Statements made per command: the family BodyFits. -/

namespace Sys2Proof.Laws

open Sys2Proof.Machine

/-- The body bytes of the frame that a command is: of the request that a request row stands for (R188, R189), and of the
raw frame. A line, timer or motion event is no frame. -/
def BodyFits.bodyBytes : Instr → List Byte
  | .getStatus _ _ => Request.getStatus.body
  | .getAxes _ _ => Request.getAxes.body
  | .getContour _ _ contour => (Request.getContour contour).body
  | .getSet _ _ slot => (Request.getSet slot).body
  | .getAlert _ _ => Request.getAlert.body
  | .releaseAlert _ _ => Request.releaseAlert.body
  | .proposeSet _ _ slot fields => (Request.proposeSet slot fields).body
  | .declare _ _ contour slot quality pierceMethod surfaceMode => (Request.declare contour slot quality pierceMethod surfaceMode).body
  | .append _ _ contour entries => (Request.append contour entries).body
  | .sealContour _ _ contour => (Request.seal contour).body
  | .clearContour _ _ contour => (Request.clearContour contour).body
  | .clearProgram _ _ => Request.clearProgram.body
  | .writeSetup _ _ fields => (Request.writeSetup fields).body
  | .setAccumulators _ _ seconds pierces => (Request.setAccumulators seconds pierces).body
  | .restart _ _ => Request.restart.body
  | .approveSet _ _ slot proposal => (Request.approveSet slot proposal).body
  | .declineSet _ _ slot proposal => (Request.declineSet slot proposal).body
  | .setOverride _ _ value => (Request.setOverride value).body
  | .releaseFault _ _ => Request.releaseFault.body
  | .hold _ _ => Request.hold.body
  | .cycleStop _ _ => Request.cycleStop.body
  | .abort _ _ => Request.abort.body
  | .cycleStart _ _ => Request.cycleStart.body
  | .resume _ _ => Request.resume.body
  | .home _ _ axis => (Request.home axis).body
  | .jog _ _ axis direction speed => (Request.jog axis direction speed).body
  | .jogStep _ _ axis distance => (Request.jogStep axis distance).body
  | .jogRefresh _ _ => Request.jogRefresh.body
  | .jogStop _ _ => Request.jogStop.body
  | .unknownRequest _ _ _ body => body
  | .frameTimerExpiry _ | .replySent _ | .resetInput _ | .powerOn _ | .estopAssert | .estopNegate |
    .limitAssert _ _ | .limitNegate _ _ | .homeInputAssert _ | .homeInputNegate _ | .contactAssert |
    .contactNegate | .abrflowAssert | .abrflowNegate | .pumprdyNegate _ | .pfbChange _ | .encoderCount _ _ |
    .keyModeChange _ _ | .settleTimerExpiry | .dipTimerExpiry | .tLowDwellEnd | .rampTick | .rampEnd | .tDwellEnd |
    .tRejoinDwellEnd | .abrasiveDelayExpiry | .abrasiveGraceExpiry | .keepTimerExpiry | .seekTravelLimit |
    .jetTimeCount | .segmentCompletion | .segmentBoundaryPassed | .backupTargetReached | .jetClosePointPassed |
    .pathAtRest | .zMoveComplete | .zAtRest | .probeEndOfTravel | .homingClearAtRest | .homingSettleAtRest |
    .homingReturnAtRest | .homingStoppedAtRest | .jogAtRest | .characterReceived _ _ _ | .stepPulse _ => []

/-- A command that can occur fits a frame: its body is at most 240 bytes long (R183). -/
def BodyFits.Statement (i : Instr) : Prop := i.wf = true → (BodyFits.bodyBytes i).length ≤ Config.maxBody

@[simp] theorem wordBytes_length (n : Nat) : (wordBytes n).length = 4 := rfl

@[simp] theorem signedBytes_length (i : Int) : (signedBytes i).length = 4 := rfl

@[simp] theorem oneByte_length (n : Nat) : (oneByte n).length = 1 := rfl

/-- An entry takes 9 bytes, an ARC 17 (R189). -/
theorem entryBytes_length (e : Entry) : (entryBytes e).length ≤ 17 := by
  cases h : e.shape <;> simp [entryBytes, shapeBytes, h]

/-- The entries of a body take at most 17 bytes each. -/
theorem entries_length (es : List Entry) : (es.flatMap entryBytes).length ≤ 17 * es.length := by
  induction es with
  | nil => simp
  | cons e rest ih =>
    have := entryBytes_length e
    simp only [List.flatMap_cons, List.length_append, List.length_cons]
    omega

/-- The fields of a process set take 117 bytes (R188). -/
@[simp] theorem setBytes_length (f : ProcessSet) : (setBytes f).length = 117 := rfl

/-- The fields of one axis take 38 bytes (R188). -/
@[simp] theorem axisBytes_length (a : AxisSetup) : (axisBytes a).length = 38 := rfl

/-- A WRITE_SETUP body is 198 bytes long (R188). -/
@[simp] theorem setupBytes_length (m : MachineSetup) : (setupBytes m).length = 198 := by
  unfold setupBytes
  simp

namespace BodyFits

theorem getStatus (port : Port) (tag : Byte) : Statement (.getStatus port tag) :=
  fun _ => Nat.zero_le _

theorem getAxes (port : Port) (tag : Byte) : Statement (.getAxes port tag) :=
  fun _ => Nat.zero_le _

theorem getContour (port : Port) (tag : Byte) (contour : Nat) : Statement (.getContour port tag contour) := by
  intro _
  simp [bodyBytes, Request.body, Config.maxBody]

theorem getSet (port : Port) (tag : Byte) (slot : Nat) : Statement (.getSet port tag slot) := by
  intro _
  simp [bodyBytes, Request.body, Config.maxBody]

theorem getAlert (port : Port) (tag : Byte) : Statement (.getAlert port tag) :=
  fun _ => Nat.zero_le _

theorem releaseAlert (port : Port) (tag : Byte) : Statement (.releaseAlert port tag) :=
  fun _ => Nat.zero_le _

theorem proposeSet (port : Port) (tag : Byte) (slot : Nat) (fields : ProcessSet) : Statement (.proposeSet port tag slot fields) := by
  intro _
  simp [bodyBytes, Request.body, Config.maxBody]

theorem declare (port : Port) (tag : Byte) (contour slot quality pierceMethod surfaceMode : Nat) : Statement (.declare port tag contour slot quality pierceMethod surfaceMode) := by
  intro _
  simp [bodyBytes, Request.body, Config.maxBody]

theorem append (port : Port) (tag : Byte) (contour : Nat) (entries : List Entry) : Statement (.append port tag contour entries) := by
  intro h
  simp only [Instr.wf, Bool.and_eq_true, decide_eq_true_eq] at h
  have := entries_length entries
  simp only [bodyBytes, Request.body, List.length_append, oneByte_length, Config.maxBody]
  omega

theorem sealContour (port : Port) (tag : Byte) (contour : Nat) : Statement (.sealContour port tag contour) := by
  intro _
  simp [bodyBytes, Request.body, Config.maxBody]

theorem clearContour (port : Port) (tag : Byte) (contour : Nat) : Statement (.clearContour port tag contour) := by
  intro _
  simp [bodyBytes, Request.body, Config.maxBody]

theorem clearProgram (port : Port) (tag : Byte) : Statement (.clearProgram port tag) :=
  fun _ => Nat.zero_le _

theorem writeSetup (port : Port) (tag : Byte) (fields : MachineSetup) : Statement (.writeSetup port tag fields) := by
  intro _
  simp [bodyBytes, Request.body, Config.maxBody]

theorem setAccumulators (port : Port) (tag : Byte) (seconds pierces : Nat) : Statement (.setAccumulators port tag seconds pierces) := by
  intro _
  simp [bodyBytes, Request.body, Config.maxBody]

theorem restart (port : Port) (tag : Byte) : Statement (.restart port tag) :=
  fun _ => Nat.zero_le _

theorem approveSet (port : Port) (tag : Byte) (slot proposal : Nat) : Statement (.approveSet port tag slot proposal) := by
  intro _
  simp [bodyBytes, Request.body, Config.maxBody]

theorem declineSet (port : Port) (tag : Byte) (slot proposal : Nat) : Statement (.declineSet port tag slot proposal) := by
  intro _
  simp [bodyBytes, Request.body, Config.maxBody]

theorem setOverride (port : Port) (tag : Byte) (value : Nat) : Statement (.setOverride port tag value) := by
  intro _
  simp [bodyBytes, Request.body, Config.maxBody]

theorem releaseFault (port : Port) (tag : Byte) : Statement (.releaseFault port tag) :=
  fun _ => Nat.zero_le _

theorem hold (port : Port) (tag : Byte) : Statement (.hold port tag) :=
  fun _ => Nat.zero_le _

theorem cycleStop (port : Port) (tag : Byte) : Statement (.cycleStop port tag) :=
  fun _ => Nat.zero_le _

theorem abort (port : Port) (tag : Byte) : Statement (.abort port tag) :=
  fun _ => Nat.zero_le _

theorem cycleStart (port : Port) (tag : Byte) : Statement (.cycleStart port tag) :=
  fun _ => Nat.zero_le _

theorem resume (port : Port) (tag : Byte) : Statement (.resume port tag) :=
  fun _ => Nat.zero_le _

theorem home (port : Port) (tag : Byte) (axis : Nat) : Statement (.home port tag axis) := by
  intro _
  simp [bodyBytes, Request.body, Config.maxBody]

theorem jog (port : Port) (tag : Byte) (axis direction speed : Nat) : Statement (.jog port tag axis direction speed) := by
  intro _
  simp [bodyBytes, Request.body, Config.maxBody]

theorem jogStep (port : Port) (tag : Byte) (axis : Nat) (distance : Int) : Statement (.jogStep port tag axis distance) := by
  intro _
  simp [bodyBytes, Request.body, Config.maxBody]

theorem jogRefresh (port : Port) (tag : Byte) : Statement (.jogRefresh port tag) :=
  fun _ => Nat.zero_le _

theorem jogStop (port : Port) (tag : Byte) : Statement (.jogStop port tag) :=
  fun _ => Nat.zero_le _

theorem unknownRequest (port : Port) (tag : Byte) (code : Byte) (body : List Byte) : Statement (.unknownRequest port tag code body) := by
  simp [Statement, Instr.wf, bodyBytes]

theorem frameTimerExpiry (port : Port) : Statement (.frameTimerExpiry port) :=
  fun _ => Nat.zero_le _

theorem replySent (port : Port) : Statement (.replySent port) :=
  fun _ => Nat.zero_le _

theorem resetInput (asserted : Bool) : Statement (.resetInput asserted) :=
  fun _ => Nat.zero_le _

theorem powerOn (supplyGood : Bool) : Statement (.powerOn supplyGood) :=
  fun _ => Nat.zero_le _

theorem estopAssert : Statement .estopAssert :=
  fun _ => Nat.zero_le _

theorem estopNegate : Statement .estopNegate :=
  fun _ => Nat.zero_le _

theorem limitAssert (axis : Axis) (side : Side) : Statement (.limitAssert axis side) :=
  fun _ => Nat.zero_le _

theorem limitNegate (axis : Axis) (side : Side) : Statement (.limitNegate axis side) :=
  fun _ => Nat.zero_le _

theorem homeInputAssert (axis : Axis) : Statement (.homeInputAssert axis) :=
  fun _ => Nat.zero_le _

theorem homeInputNegate (axis : Axis) : Statement (.homeInputNegate axis) :=
  fun _ => Nat.zero_le _

theorem contactAssert : Statement .contactAssert :=
  fun _ => Nat.zero_le _

theorem contactNegate : Statement .contactNegate :=
  fun _ => Nat.zero_le _

theorem abrflowAssert : Statement .abrflowAssert :=
  fun _ => Nat.zero_le _

theorem abrflowNegate : Statement .abrflowNegate :=
  fun _ => Nat.zero_le _

theorem pumprdyNegate (level : Bool) : Statement (.pumprdyNegate level) :=
  fun _ => Nat.zero_le _

theorem pfbChange (value : Nat) : Statement (.pfbChange value) :=
  fun _ => Nat.zero_le _

theorem encoderCount (axis : Axis) (up : Bool) : Statement (.encoderCount axis up) :=
  fun _ => Nat.zero_le _

theorem keyModeChange (key1 key0 : Bool) : Statement (.keyModeChange key1 key0) :=
  fun _ => Nat.zero_le _

theorem settleTimerExpiry : Statement .settleTimerExpiry :=
  fun _ => Nat.zero_le _

theorem dipTimerExpiry : Statement .dipTimerExpiry :=
  fun _ => Nat.zero_le _

theorem tLowDwellEnd : Statement .tLowDwellEnd :=
  fun _ => Nat.zero_le _

theorem rampTick : Statement .rampTick :=
  fun _ => Nat.zero_le _

theorem rampEnd : Statement .rampEnd :=
  fun _ => Nat.zero_le _

theorem tDwellEnd : Statement .tDwellEnd :=
  fun _ => Nat.zero_le _

theorem tRejoinDwellEnd : Statement .tRejoinDwellEnd :=
  fun _ => Nat.zero_le _

theorem abrasiveDelayExpiry : Statement .abrasiveDelayExpiry :=
  fun _ => Nat.zero_le _

theorem abrasiveGraceExpiry : Statement .abrasiveGraceExpiry :=
  fun _ => Nat.zero_le _

theorem keepTimerExpiry : Statement .keepTimerExpiry :=
  fun _ => Nat.zero_le _

theorem seekTravelLimit : Statement .seekTravelLimit :=
  fun _ => Nat.zero_le _

theorem jetTimeCount : Statement .jetTimeCount :=
  fun _ => Nat.zero_le _

theorem segmentCompletion : Statement .segmentCompletion :=
  fun _ => Nat.zero_le _

theorem segmentBoundaryPassed : Statement .segmentBoundaryPassed :=
  fun _ => Nat.zero_le _

theorem backupTargetReached : Statement .backupTargetReached :=
  fun _ => Nat.zero_le _

theorem jetClosePointPassed : Statement .jetClosePointPassed :=
  fun _ => Nat.zero_le _

theorem pathAtRest : Statement .pathAtRest :=
  fun _ => Nat.zero_le _

theorem zMoveComplete : Statement .zMoveComplete :=
  fun _ => Nat.zero_le _

theorem zAtRest : Statement .zAtRest :=
  fun _ => Nat.zero_le _

theorem probeEndOfTravel : Statement .probeEndOfTravel :=
  fun _ => Nat.zero_le _

theorem homingClearAtRest : Statement .homingClearAtRest :=
  fun _ => Nat.zero_le _

theorem homingSettleAtRest : Statement .homingSettleAtRest :=
  fun _ => Nat.zero_le _

theorem homingReturnAtRest : Statement .homingReturnAtRest :=
  fun _ => Nat.zero_le _

theorem homingStoppedAtRest : Statement .homingStoppedAtRest :=
  fun _ => Nat.zero_le _

theorem jogAtRest : Statement .jogAtRest :=
  fun _ => Nat.zero_le _

theorem characterReceived (port : Port) (char : Byte) (stopBit : Bool) : Statement (.characterReceived port char stopBit) :=
  fun _ => Nat.zero_le _

theorem stepPulse (axis : Axis) : Statement (.stepPulse axis) :=
  fun _ => Nat.zero_le _

end BodyFits

end Sys2Proof.Laws
end

