-- ==== Sys2Proof/Tests/Slice0.lean ====
section
/-! SUPPORT. The model's own tests: an ill-formed term for each check of `Instr.wf`; figures of the manual's worked
examples; and, for each statement with hypotheses, concrete states and operands that meet them, clause by clause. -/

namespace Sys2Proof.Tests

open Sys2Proof Sys2Proof.Machine

-- One theorem after the other: each would otherwise wait in a thread of its own.
set_option Elab.async false

/-! ### Small states -/

/-- The X and Y setup of the examples of sections 3.7, 10.4 and 10.5. -/
def axisXY : AxisSetup :=
  { softMin := -100000, softMax := 3200000, maxSpeed := 500000, acceleration := 1000000, followingLimit := 1000
    encoderReverse := 0, homeDirection := 0, homeSpeed := 20000, homePosition := -95000, jogSlow := 5000
    jogFast := 50000 }

/-- The Z setup of the example of section 10.4. -/
def axisZ : AxisSetup :=
  { softMin := -100000, softMax := 100000, maxSpeed := 100000, acceleration := 500000, followingLimit := 1000
    encoderReverse := 0, homeDirection := 1, homeSpeed := 10000, homePosition := 95000, jogSlow := 5000
    jogFast := 50000 }

/-- A Machine Setup with the figures of the examples of sections 4.9, 6.10, 8.13, 10.4 and 10.5. -/
def setup : MachineSetup :=
  { axes := ⟨axisXY, axisXY, axisZ⟩, accel := 200000, accelHold := 400000, vPathMax := 100000, vRapid := 200000
    accelRapid := 1000000, zClearance := 60000, probeSpeed := 5000, probeTravel := 80000, nominalSurface := 0
    arcTolerance := 10, backupReach := 20000, vBackup := 2000, pumpMax := 4000, pressureBand := 100
    settleLimit := 3000, dipAllowance := 300, abrasiveDelay := 800, abrasiveGrace := 400, jogKeep := 300
    jetTimeLimit := 0, pierceCountLimit := 0 }

/-- The process set of the examples of sections 4.9, 6.10 and 8.13. -/
def granite : ProcessSet :=
  { material := 21, thickness := 30000, vSep := 2000, qf1 := 1024, qf2 := 700, qf3 := 430, qf4 := 300, qf5 := 200
    rFull := 25000, fa := 256, fl := 512, cf0 := 1024, cf1 := 700, cf2 := 420, cf3 := 260, cf4 := 160, cf5 := 120
    vTab := 300, vCreep := 100, fr := 512, pCut := 3800, pPierce := 800, pTab := 2000, tLow := 1500, tRamp := 4000
    tDwell := 500, tRejoin := 1000, hPierce := 8000, hCut := 3000, backup := 10000 }

/-- The line levels with PUMPRDY asserted. -/
def pumped : Lines := { Lines.quiet with pumprdy := true }

/-- IDLE with the setup written, every axis homed, the set APPROVED in slot 0, PUMPRDY asserted, and a key mode. -/
def idle (k : KeyMode := .production) : State :=
  { State.reset with
    lines := pumped
    ports := { State.reset.ports with keyMode := k }
    path := { State.reset.path with override := k.cap 100 }
    setups :=
      { setup := some setup, sets := State.reset.setups.sets.set 0 { number := 1, content := .approved granite } }
    cyc := { CycleController.reset with mstate := .idle, surface := some 0 }
    axes :=
      { x := { Channel.reset with homed := true }, y := { Channel.reset with homed := true }
        z := { Channel.reset with homed := true } } }

/-- A segment of contour 2: a LINE of 100 µm along X. -/
def seg (n : Nat) (cls : SegClass) (st : SegState) : Segment :=
  { seq := n, contour := 2, cls := cls, shape := .line, start := some ⟨100 * n, 0⟩, finish := ⟨100 * n + 100, 0⟩
    length := some 100, tangents := some ⟨⟨100, 0⟩, ⟨100, 0⟩⟩
    plan := some { vMax := 500, entry := 0, exit := 500, cruise := 500, accDist := 1, rampDown := 100, time := 200 }
    state := st }

/-- A record of contour 2 with a status, a pierce method and a surface mode. -/
def recordOf (st : ContourStatus) (pm : PierceMethod) (sm : SurfaceMode) (complete : Bool) : Contour :=
  { Contour.declared 0 3 pm sm with status := st, stored := 3, jets := 3, pierceComplete := complete }

/-- A state with contour 2 holding a record and segments. -/
def holding2 (r : Contour) (segs : List Segment) (s : State) : State :=
  { s with prog := { s.prog with contours := s.prog.contours.set 2 (some r), segments := segs, nextSeq := 10 } }

/-- A cycle state on contour 2: a machine state and a phase, a pierce method, segments. -/
def cycleOn (ms : MachineState) (ph : Phase) (pm : PierceMethod) (sm : SurfaceMode) (complete : Bool)
    (segs : List Segment) : State :=
  let s := holding2 (recordOf .active pm sm complete) segs idle
  { s with cyc := { s.cyc with mstate := ms, phase := some ph, active := some 2 } }

/-- The jet in CUT in band with its dip watch armed. -/
def cutJet : Jet := { Jet.reset with state := .cut, demand := 3800, bandIn := true, dipWatch := true, abrasiveWatch := true }

/-- RUNNING CUT 40 µm into segment 2 of three jet segments, moving FORWARD. -/
def cutting : State :=
  let s := cycleOn .running .cut .static .probe true [seg 1 .leadin .retained, seg 2 .cut .active, seg 3 .cut .planned]
  { s with
    path := { s.path with cursor := some ⟨2, 40⟩, speedSq := 250000, motion := .run }
    jet := cutJet
    lines := { s.lines with pfb := 3790, abrflow := true } }

/-- A hold record in a phase, with the three points of a cut at segment 2. -/
def holdIn (ph : Phase) (step : Option ResumeStep) : HoldRecord :=
  { cause := .request, phase := ph, jetClose := some ⟨2, 40⟩, stop := some ⟨2, 60⟩, rejoin := some ⟨1, 0⟩, step := step }

/-- `cutting` brought to another machine state with a hold record, the jet closed and the path still. -/
def heldIn (ms : MachineState) (ph : Phase) (step : Option ResumeStep) : State :=
  { cutting with
    path := { cutting.path with speedSq := 0, motion := .rest }
    jet := Jet.reset
    cyc := { cutting.cyc with mstate := ms, phase := some ph, hold := some (holdIn ph step) } }

/-- HOMING of an axis at a step. -/
def homing (a : Axis) (st : HomingStep) : State :=
  { idle .setup with
    cyc := { (idle .setup).cyc with mstate := .homing }
    homing := { Homing.reset with axis := some a, step := some st } }

/-- JOGGING or FAULT with a jog of X under way. -/
def jogging (ms : MachineState) : State :=
  { idle .setup with
    cyc := { (idle .setup).cyc with mstate := ms, faultCause := if ms = .fault then some (.limit .x .neg) else none }
    jog :=
      { axis := some .x, kind := some .continuous, direction := some .pos, speed := some 5000, target := none
        keep := .running 300, stopping := false, slowing := false } }

/-- FAULT by ESTOP, with ESTOP negated again. -/
def faulted : State :=
  { idle .setup with cyc := { (idle .setup).cyc with mstate := .fault, faultCause := some .estop } }

/-- The state after a command, where it has a next state. -/
def after (i : Instr) (s : State) : State :=
  match exec i s with
  | .next t => t
  | .fault _ | .refused _ => s

/-- The status of the reply on a port. -/
def status (p : Port) (s : State) : Option Status := (s.ports.port p).reply.map (·.status)

/-! ### Ill-formed commands, one for each check -/

theorem test_wf_byte : (Instr.getContour .cell 0 256).wf = false := by decide
theorem test_wf_word : (Instr.setAccumulators .cell 0 4294967296 0).wf = false := by decide
theorem test_wf_signed : (Instr.jogStep .pendant 0 0 2147483648).wf = false
    ∧ (Instr.jogStep .pendant 0 0 (-2147483649)).wf = false
    ∧ (Instr.jogStep .pendant 0 0 (-2147483648)).wf = true := by decide
theorem test_wf_axis_byte :
    (Instr.writeSetup .cell 0 { setup with axes := ⟨{ axisXY with encoderReverse := 256 }, axisXY, axisZ⟩ }).wf = false := by
  decide +kernel
theorem test_wf_axis_word :
    (Instr.writeSetup .cell 0 { setup with axes := ⟨axisXY, axisXY, { axisZ with jogFast := 4294967296 }⟩ }).wf = false := by
  decide +kernel
theorem test_wf_setup_word : (Instr.writeSetup .cell 0 { setup with pierceCountLimit := 4294967296 }).wf = false := by
  decide +kernel
theorem test_wf_set_byte : (Instr.proposeSet .cell 0 0 { granite with material := 256 }).wf = false := by decide +kernel
theorem test_wf_set_word : (Instr.proposeSet .cell 0 0 { granite with backup := 4294967296 }).wf = false := by
  decide +kernel
theorem test_wf_class : (Instr.append .cell 0 0 [⟨8, .line, false, 0, 0⟩]).wf = false := by decide
theorem test_wf_end_point : (Instr.append .cell 0 0 [⟨0, .line, false, 0, 2147483648⟩]).wf = false := by decide
theorem test_wf_centre : (Instr.append .cell 0 0 [⟨2, .arc 0 2147483648, false, 0, 0⟩]).wf = false := by decide
theorem test_wf_no_entry : (Instr.append .cell 0 0 []).wf = false := by decide
theorem test_wf_nine_entries : (Instr.append .cell 0 0 (List.replicate 9 ⟨0, .line, false, 0, 0⟩)).wf = false := by
  decide
theorem test_wf_body : (Instr.unknownRequest .cell 0 0 (List.replicate 241 0)).wf = false := by decide +kernel
theorem test_wf_pfb : (Instr.pfbChange 4201).wf = false ∧ (Instr.pfbChange 4200).wf = true := by decide
theorem test_wf_good : (Instr.writeSetup .cell 0 setup).wf = true ∧ (Instr.proposeSet .cell 0 0 granite).wf = true := by
  decide +kernel

/-! ### Figures of the manual -/

/-- Section 12.1: the CRC over "123456789" is 29B1h. -/
theorem test_crc : crc16 [0x31, 0x32, 0x33, 0x34, 0x35, 0x36, 0x37, 0x38, 0x39] = 0x29B1#16 := by decide +kernel

/-- R189's example: a LEADIN LINE and a CUT ARC CCW have descriptors 01h and 0Ah and a body of 27 bytes. -/
theorem test_append_body :
    let b := (Request.append 2 [⟨1, .line, false, 517500, 300000⟩, ⟨2, .arc 500000 300000, false, 517500, 300000⟩]).body
    b.length = 27 ∧ b[1]? = some 0x01#8 ∧ b[10]? = some 0x0A#8
      ∧ readRequest 0x12#8 b = .ok (.append 2 [⟨1, .line, false, 517500, 300000⟩,
          ⟨2, .arc 500000 300000, false, 517500, 300000⟩]) := by
  decide +kernel

/-- The entries of the tap hole (section 3.7). -/
def tapEntries : List Entry :=
  [⟨0, .line, false, 400000, 300000⟩, ⟨0, .line, false, 500000, 300000⟩, ⟨1, .line, false, 517500, 300000⟩,
   ⟨2, .arc 500000 300000, false, 517500, 300000⟩, ⟨4, .line, false, 514500, 300000⟩]

/-- IDLE with contour 2 declared, and the tap hole appended, by the requests themselves. -/
def tapLoaded : State := after (.append .cell 0 2 tapEntries) { after (.declare .cell 0 2 0 3 0 0) idle with ports := idle.ports }

/-- Section 3.7: the shapes and lengths of the tap hole, and R20's sequence numbers. -/
theorem test_append_tap_hole :
    tapLoaded.prog.segments.map (fun g => (g.seq, g.length)) =
      [(1, none), (2, some 100000), (3, some 17500), (4, some 109956), (5, some 3000)]
    ∧ (tapLoaded.prog.segments[3]?.map fun g => (g.shape, g.tangents)) =
      some (.arc .ccw ⟨500000, 300000⟩ 17500 65536, some ⟨⟨0, 17500⟩, ⟨0, 17500⟩⟩) := by
  decide +kernel

/-- Section 4.9: Vq 839, the limits 419, 587 and 419, the junctions' band 3 with Vj 106, and the totals. -/
theorem test_plan_tap_hole :
    let jets := tapLoaded.prog.segments.filter fun g => g.cls.isJet
    let plans := planRun granite setup 3 jets
    qualitySpeed granite 3 = 839 ∧ plans.map (·.vMax) = [419, 587, 419] ∧ plans.map (·.entry) = [0, 106, 106]
      ∧ deflectionBand ⟨17500, 0⟩ ⟨0, 17500⟩ = 3 ∧ plans.map (·.time) = [41765, 187320, 7159]
      ∧ (jets.map (·.len)).sum = 130456 := by
  decide +kernel

/-- Section 1.7: SEAL gives the planned length 130,456 and the planned time 236,244, and joins the Run List. -/
theorem test_seal_tap_hole :
    let s := after (.sealContour .cell 0 2) { tapLoaded with ports := idle.ports }
    s.prog.runList = [2] ∧ (s.contour? 2).map (fun r => (r.plannedLength, r.plannedTime, r.sealOrder)) =
      some (some 130456, some 236244, some 0) := by
  decide +kernel

/-- R72's example: the point a quarter of the way round the tap hole. -/
theorem test_point_on_arc : arcPoint .ccw ⟨517500, 300000⟩ ⟨500000, 300000⟩ 17500 65536 27489 109956 = ⟨500000, 317500⟩ := by
  decide +kernel

/-- R67's example: a creep distance of 300 µm. -/
theorem test_creep_distance : creepDistance { granite with vCreep := 120, tRamp := 2500 } = 300 := by decide +kernel

/-- R99's example: 1,550 bar at 1,000 ms and 2,675 bar at 2,500 ms. -/
theorem test_ramp_demand : rampDemand granite 1000 = 1550 ∧ rampDemand granite 2500 = 2675 := by decide +kernel

/-- R179's example: a home margin of 5,000 passes and one of 50 is refused with index 31. -/
theorem test_home_margin :
    setupInconsistency setup = none
      ∧ setupInconsistency { setup with axes := ⟨axisXY, axisXY, { axisZ with homePosition := 99950 }⟩ } = some 31 := by
  decide +kernel

/-- Section 11.3: a proposal superseded during approval. -/
theorem test_superseded :
    let s := after (.proposeSet .cell 0 3 granite) idle
    let s := after (.proposeSet .cell 0 3 { granite with tRamp := 2500 }) { s with ports := idle.ports }
    status .pendant (after (.approveSet .pendant 0 3 1) s) = some .superseded
      ∧ status .pendant (after (.approveSet .pendant 0 3 2) s) = some .ok
      ∧ status .pendant (after (.declineSet .pendant 0 3 2) s) = some .ok := by
  decide +kernel

/-- Section 10.4: the HOMEz edge at encoder 94,996 with deviation 3. -/
theorem test_home_edge :
    let s := homing .z .seek
    let s := { s with axes := { s.axes with z := { s.axes.z with command := 94999, encoder := 94996 } } }
    let z := (after (.homeInputAssert .z) s).axes.z
    z.encoder = 95000 ∧ z.command = 95003 ∧ z.latch = some 95000 := by
  decide +kernel

/-- Section 10.4: Z and X at rest, homed, in their turn; the list X, Y goes on. -/
theorem test_home_all :
    let s := { homing .z .settle with homing := { Homing.reset with axis := some .z, step := some .settle, remaining := [.x, .y] } }
    let t := after .homingSettleAtRest s
    t.homing.axis = some .x ∧ t.homing.step = some .seek ∧ t.homing.remaining = [.y]
      ∧ t.axes.x.homed = false ∧ t.axes.z.homed = true := by
  decide +kernel

/-- Section 10.4: the seek limits 210,000 for Z and 3,310,000 for X. -/
theorem test_seek_limit : seekLimit axisZ = 210000 ∧ seekLimit axisXY = 3310000 := by decide +kernel

/-- Section 10.5: a JOG_STEP outward at the window edge makes no motion; one inward goes to 3,100,000. -/
theorem test_jog_step :
    let s := idle .setup
    let s := { s with axes := { s.axes with x := { s.axes.x with command := 3200000, encoder := 3200000 } } }
    (after (.jogStep .pendant 0 0 100000) s).cyc.mstate = .idle
      ∧ (stepTarget s .x 100000) = (3200000, true)
      ∧ (after (.jogStep .pendant 0 0 (-100000)) s).jog.target = some 3100000 := by
  decide +kernel

/-- Section 10.5: the fast jog's deceleration begins where its rest lies at the soft maximum. -/
theorem test_jog_limit : stopping 1000000 1250 = 50000 * 50000 ∧ (3200000 - 3198750 : Nat) = 1250 := by decide +kernel

/-- Section 10.4: Z, at 10,000 µm/s with its HOME edge at 95,003, decelerates over 100 µm and rests at 95,103. -/
theorem test_settle_distance :
    let c : Channel := { Channel.reset with command := 95003, dir := .pos, speedSq := 10000 * 10000 }
    (Nat.repeat (coast axisZ.acceleration) 99 c).command = 95102 ∧ (Nat.repeat (coast axisZ.acceleration) 99 c).speedSq ≠ 0
      ∧ (Nat.repeat (coast axisZ.acceleration) 101 c).command = 95103
      ∧ (Nat.repeat (coast axisZ.acceleration) 101 c).speedSq = 0 := by
  decide +kernel

/-- Section 10.5: a fast jog reaches 50,000 µm/s after 1,250 µm. R76: a TRAVERSE reaches 100,000 after 5,000 µm at
1,000,000. Section 8.13: BACKUP reaches 2,000 after 5 µm at 400,000. -/
theorem test_rises :
    slew 1000000 50000 1250 0 = 50000 * 50000 ∧ slew 1000000 50000 1249 0 < 50000 * 50000
      ∧ slew 1000000 100000 5000 0 = 100000 * 100000 ∧ slew 1000000 100000 4999 0 < 100000 * 100000
      ∧ slew 400000 2000 5 0 = 2000 * 2000 ∧ slew 400000 2000 4 0 < 2000 * 2000 := by
  decide

/-- `n` steps of a JOG_STEP toward 1,000 at 1,000,000 µm/s² and a jog slow speed of 5,000. -/
def steps (n : Nat) (slowing : Bool) (c : Channel) : Channel :=
  (Nat.repeat (fun p => stepToTarget 1000000 5000 1000 p.2 p.1) n (c, slowing)).1

/-- R169: from rest a JOG_STEP of 1,000 µm rests at its target; a JOG SLOW at 5,000 first decelerates, over 12 µm, and a
fast jog falls no faster than the acceleration. -/
theorem test_jog_step_rests :
    let c : Channel := { Channel.reset with dir := .pos }
    let moving := { c with speedSq := 5000 * 5000 }
    (steps 999 false c).command = 999 ∧ (steps 1010 false c).command = 1000
      ∧ (steps 1 true moving).speedSq = 5000 * 5000 - 2000000 ∧ (steps 12 true moving).speedSq = 1000000
      ∧ (steps 13 true moving).speedSq = 2000000 ∧ (steps 1010 true moving).command = 1000
      ∧ (steps 1 true { c with speedSq := 50000 * 50000 }).speedSq = 50000 * 50000 - 2000000 := by
  decide +kernel

/-- R79: on a 45 degree line a stop of 2.5 µm rests at distance 2, though its last micrometre brings no pulse. A path
that a ceiling of 0 holds at speed 0 is at rest as soon as HOLD decelerates it. -/
theorem test_path_at_rest :
    let plan : Plan :=
      { vMax := 2000, entry := 2000, exit := 2000, cruise := 2000, accDist := 0, rampDown := 100, time := 50 }
    let g : Segment := { seg 2 .cut .active with start := some ⟨0, 0⟩, finish := ⟨71, 71⟩, plan := some plan }
    let s := { cutting with
      prog := { cutting.prog with segments := [seg 1 .leadin .retained, g] }
      path := { cutting.path with cursor := some ⟨2, 0⟩, speedSq := 2000000 } }
    let pulses := after (.stepPulse .y) (after (.stepPulse .x) (after (.hold .cell 0) s))
    let creep := { cutting with
      path := { cutting.path with speedSq := 0, override := 0, cursor := some ⟨2, 40⟩ } }
    pulses.path.cursor = some ⟨2, 1⟩ ∧ (after .pathAtRest pulses).path.cursor = some ⟨2, 2⟩
      ∧ ((after .pathAtRest pulses).axes.x.command, (after .pathAtRest pulses).axes.y.command) = (1, 1)
      ∧ (after (.hold .cell 0) creep).cyc.mstate = .held := by
  decide +kernel

/-- R82: on a path along both axes a pulse moves its own axis alone. -/
theorem test_path_pulse :
    let g : Segment := { seg 2 .cut .active with start := some ⟨0, 0⟩, finish := ⟨80, -60⟩ }
    let s := { cutting with
      prog := { cutting.prog with segments := [g] }, path := { cutting.path with cursor := some ⟨2, 0⟩ } }
    let x := after (.stepPulse .x) s
    let y := after (.stepPulse .y) x
    (x.axes.x.command, x.axes.y.command) = (1, 0) ∧ (y.axes.x.command, y.axes.y.command) = (1, -1)
      ∧ x.path.cursor = some ⟨2, 1⟩ ∧ y.path.cursor = some ⟨2, 1⟩ := by
  decide +kernel

/-- R85, R156: a WRITE_SETUP that leaves two axes beyond their new limits raises two alerts. -/
theorem test_two_following :
    let s := (idle .service).onAxes fun p =>
      ⟨{ p.x with command := 500 }, { p.y with command := -500 }, p.z⟩
    let m := { setup with
      axes := ⟨{ axisXY with followingLimit := 499 }, { axisXY with followingLimit := 499 }, axisZ⟩ }
    let t := after (.writeSetup .cell 0 m) s
    t.cyc.mstate = .fault ∧ t.cyc.faultCause = some (.following .x)
      ∧ (t.alert.map fun r => (r.code, r.detail.axis, r.further, r.latest))
        = some (.following, some .x, 1, some .following) := by
  decide +kernel

/-- Section 12.8: the GET_STATUS reply body is 104 bytes, and its frame 111. -/
theorem test_status_length :
    ((after (.getStatus .cell 0x41#8) idle).ports.cell.reply.map fun r => (r.body.length, r.frame.length))
      = some (104, 111) := by
  decide +kernel

/-- Section 12.8: a request that finds its port SERVING is discarded: the keep timer is not restarted. -/
theorem test_discarded :
    let s := jogging .jogging
    let s := { s with jog := { s.jog with keep := .running 100 } }
    let t := after (.getStatus .pendant 0x41#8) s
    (after (.jogRefresh .pendant 0x42#8) t).jog.keep = .running 100
      ∧ (after (.jogRefresh .pendant 0x43#8) (after (.replySent .pendant) t)).jog.keep = .running 300 := by
  decide +kernel

/-- Section 6.10: the band entry at 712 begins the T_low dwell, and the end of the dwell the ramp. -/
theorem test_static_pierce :
    let s := cycleOn .running .pierce .static .probe false [seg 1 .leadin .active]
    let s := { s with jet := { Jet.reset with state := .low, demand := 800, settle := .running 3000, pierceStep := some 2 } }
    let t := after (.pfbChange 712) s
    t.jet.pierceStep = some 3 ∧ t.jet.settle = .stopped ∧ (after .tLowDwellEnd t).jet.state = .ramp := by
  decide +kernel

/-- Section 6.11: a loss of band starts the dip timer, and its expiry takes a hold. -/
theorem test_dip :
    let t := after (.pfbChange 3650) cutting
    t.jet.dip = .running 300 ∧ (after (.pfbChange 3760) t).jet.dip = .stopped
      ∧ (after .dipTimerExpiry t).cyc.mstate = .holding ∧ (after .dipTimerExpiry t).jet.demand = 0
      ∧ ((after .dipTimerExpiry t).alert.map fun r => (r.code, r.detail.jetState, r.detail.demand))
        = some (.pressureDip, some .cut, some 3800) := by
  decide +kernel

/-! ### The statements' hypotheses are met -/

theorem witness_QueueFirstInFirstOut :
    State.reset.pending = [] ∧ ∃ t, exec .pathAtRest { State.reset with pending := [.zAtRest] } = .next t :=
  ⟨rfl, _, rfl⟩

theorem witness_LawsAtReset : ∀ i ∈ [Instr.pfbChange 4200, .getContour .cell 0 255], i.wf = true := by decide

/-- The part held by RESET. -/
def inReset : State := State.resetWith { Lines.quiet with reset := true } []

/-- The part held by a supply that is not good. -/
def unpowered : State := State.resetWith { Lines.quiet with supplyGood := false } []

theorem witness_ResetHoldsThePart :
    (inReset.lines.held = true ∧ unpowered.lines.held = true ∧ (∀ v, Instr.jogAtRest ≠ .resetInput v)
      ∧ (∀ v, Instr.jogAtRest ≠ .powerOn v) ∧ ∃ t, exec .jogAtRest inReset = .next t)
    ∧ (inReset.lines.reset = true ∧ inReset.lines.supplyGood = true ∧ inReset.lines.estop = false
      ∧ inReset.lines.firstLimit = none)
    ∧ (unpowered.lines.supplyGood = false ∧ unpowered.lines.reset = false ∧ unpowered.lines.estop = false
      ∧ unpowered.lines.firstLimit = none)
    ∧ (let s := after .estopAssert inReset
       s.lines.reset = true ∧ s.lines.supplyGood = true ∧ s.lines.estop = true ∧ s.lines.firstLimit = none)
    ∧ (∀ a : Bool, let s := after (.limitAssert (if a then .x else .z) (if a then .neg else .pos)) inReset
       s.lines.reset = true ∧ s.lines.supplyGood = true ∧ s.lines.estop = false
         ∧ s.lines.firstLimit = some (if a then .x else .z, if a then .neg else .pos)) :=
  ⟨⟨by decide +kernel, by decide +kernel, nofun, nofun, _, rfl⟩, by decide +kernel, by decide +kernel,
    by decide +kernel, by decide +kernel⟩

theorem witness_ReceivedFrameIsServed :
    Live idle ∧ (idle.ports.port .cell).rx ≠ .frame ∧ (List.replicate 240 (0 : Byte)).length ≤ 240
      ∧ Live (frameEnded .pendant idle) ∧ ((frameEnded .pendant idle).ports.port .pendant).rx ≠ .frame := by
  decide +kernel

/-- A state in which the Cell Port has taken a start mark. -/
def marked : State := after (.characterReceived .cell 0xA7#8 true) idle

theorem witness_BadFramesAreDropped :
    (Live idle ∧ (idle.ports.port .cell).rx ≠ .frame ∧ ([] : List Byte).length ≤ 240
      ∧ [0#8, 0#8] ≠ checkBytes [0#8, 0x01#8, 0x41#8, 0x05#8] ∧ (0x02#8 : Byte) ≠ 0x01#8)
    ∧ ((idle.ports.port .cell).rx = .hunt ∧ (0xA6#8 : Byte) ≠ 0xA7#8)
    ∧ (Live marked ∧ (marked.ports.port .cell).rx = .frame ∧ (marked.ports.port .cell).bytes.length = 1
      ∧ 240 < (241#8 : Byte).toNat) := by
  decide +kernel

theorem witness_RequestFramesRoundTrip :
    ((Request.jogStep 2 (-2147483648)).row .pendant 0xFF#8).wf = true ∧ ((Request.writeSetup setup).row .cell 0).wf = true
      ∧ ((Request.append 31 (List.replicate 8 ⟨7, .arc 0 (-1), true, 2147483647, 0⟩)).row .cell 0).wf = true := by
  decide +kernel

theorem witness_RowIsItsFrame :
    ((Request.getContour 255).row .cell 0).wf = true ∧ ((Request.proposeSet 8 granite).row .cell 0).wf = true := by
  decide +kernel

theorem witness_UnknownAndMalformed :
    Ready idle .cell ∧ Ready idle .pendant ∧ (∀ r : Request, r.code ≠ 0x07#8)
      ∧ (Request.jogStop.code = 0x44#8 ∧ (∀ c es, Request.jogStop ≠ .append c es)
        ∧ ([0#8] : List Byte).length ≠ (fixedLength 0x44).getD 0)
      ∧ readEntries [0#8] = none ∧ readEntries (List.replicate 9 0#8) = none :=
  ⟨by decide +kernel, by decide +kernel, by intro r; cases r <;> simp [Request.code], ⟨rfl, nofun, by decide⟩, by decide +kernel,
    by decide +kernel⟩

theorem witness_AccessCheck :
    ((Request.jogStop.row .cell 0).wf = true ∧ Ready idle .cell ∧ ¬ Admits idle .cell .jogStop)
      ∧ (((Request.setAccumulators 0 0).row .cell 0).wf = true ∧ ¬ Admits idle .cell (.setAccumulators 0 0))
      ∧ ¬ Admits (idle .service) .pendant .resume ∧ ¬ Admits idle .pendant (.home 0) := by
  decide +kernel

theorem witness_RefusedRequestChangesNothing :
    ((Request.home 4).row .pendant 0).wf = true ∧ Takes (idle .setup) .pendant (.home 4)
      ∧ (answer (.home 4) (frameEnded .pendant (idle .setup))).status ≠ .ok := by
  decide +kernel

/-- A port that is sending a reply. -/
def serving (p : Port) (restart : Bool) : State :=
  (idle.onPort p fun q => { q with service := .serving }).onPorts fun q => { q with restartPending := restart }

theorem witness_ServingPortDiscards :
    (Live (serving .cell false) ∧ ((serving .cell false).ports.port .cell).service = .serving)
      ∧ (Live (serving .cell true) ∧ ((serving .cell true).ports.port .pendant).service = .ready
        ∧ (serving .cell true).ports.restartPending = true)
      ∧ ((Request.getStatus).row .pendant 0).wf = true := by
  decide +kernel

theorem witness_ReplyForm : (num4 0x01020304)[3]? = some (some 0x01#8) ∧ (optional 1 num1 none)[1]? = some none := by
  decide

theorem witness_ReplyEndAndRestart :
    (Live (serving .pendant true) ∧ ((serving .pendant true).ports.port .pendant).service = .serving
      ∧ ¬ (Port.pendant = .cell ∧ (serving .pendant true).ports.restartPending = true))
    ∧ (Takes State.reset .cell .restart ∧ Takes (idle .service) .cell .restart)
    ∧ (Live (serving .cell true) ∧ (serving .cell true).ports.cell.service = .serving
      ∧ (serving .cell true).ports.restartPending = true ∧ (serving .cell true).lines.estop = false
      ∧ (serving .cell true).lines.firstLimit = none) := by
  decide +kernel

theorem witness_StatusAndAxesReplies : Ready cutting .cell ∧ Ready (heldIn .held .cut none) .pendant := by decide +kernel

theorem witness_ContourAndSetReplies :
    Ready cutting .cell ∧ (cutting.contour? 2).isSome = true ∧ cutting.setups.sets[0].fields = some granite
      ∧ Config.contours ≤ 32 ∧ Config.sets ≤ 8 := by
  decide +kernel

/-- An alert record with a code and a detail. -/
def alertOf (c : AlertCode) (d : AlertDetail := {}) : AlertRecord := recordAlert c d ⟨none, none, .idle⟩ none

/-- A state that a port may ask, with an alert in the record. -/
def alerted (r : AlertRecord) (s : State) : State := { s with alert := some r }

theorem witness_AlertReadAndRelease :
    (Ready idle .cell ∧ idle.alert = none)
    ∧ (∀ on : Bool,
        let pump := { idle with lines := { idle.lines with pumprdy := !on } }
        let limit := { idle with lines := { idle.lines with limits := idle.lines.limits.set .y ⟨on, false⟩ } }
        let estop := { idle with lines := { idle.lines with estop := on } }
        let wear := { idle with jet := { idle.jet with wearJetTime := on, wearPierceCount := !on } }
        Ready (alerted (alertOf .pump) pump) .cell ∧ (pump.lines.pumprdy = false ↔ on = true)
          ∧ Ready (alerted (alertOf .limit { axis := some .y, side := some .neg }) limit) .pendant
          ∧ (limit.lines.limit .y .neg = true ↔ on = true)
          ∧ Ready (alerted (alertOf .estop) estop) .pendant ∧ (estop.lines.estop = true ↔ on = true)
          ∧ Ready (alerted (alertOf .wear { accumulator := some .jetTime }) wear) .cell
          ∧ (wear.jet.wearJetTime = true ↔ on = true) ∧ (wear.jet.wearPierceCount = true ↔ on = false))
    ∧ ∀ c ∈ [AlertCode.pressureSettle, .pressureDip, .abrasive, .noSurface, .key, .following, .collision, .homeFailed],
        Ready (alerted (alertOf c) idle) .cell := by
  decide +kernel

/-- R158: WEAR stands on the accumulator its detail names, PUMP on the line. -/
theorem test_release_alert :
    let worn := { idle with jet := { idle.jet with wearJetTime := true } }
    let left := fun r s => (after (.releaseAlert .cell 0) (alerted r s)).alert.map fun q => (q.code, q.isStatic)
    left (alertOf .wear { accumulator := some .jetTime }) worn = some (.wear, true)
      ∧ left (alertOf .wear { accumulator := some .pierceCount }) worn = none
      ∧ left (alertOf .pump) idle = none ∧ left (alertOf .pump) { idle with lines := .quiet } = some (.pump, true) := by
  decide +kernel

/-- IDLE with a proposal in slot 3. -/
def proposed : State :=
  { idle with setups := { idle.setups with sets := idle.setups.sets.set 3 { number := 2, content := .proposed granite } } }

theorem witness_ProposalsAndApprovals :
    (Ready proposed .cell ∧ firstFailure 1 (setRanges granite) = none ∧ qualityOrder granite = none
      ∧ cornerOrder granite = none ∧ slotInUse proposed 3 = false ∧ slotInUse cutting 0 = true)
    ∧ (firstFailure 1 (setRanges { granite with thickness := 999 }) = some 2
      ∧ firstFailure 1 (setRanges { granite with backup := 50001 }) = some 30)
    ∧ (firstFailure 1 (setRanges { granite with qf4 := 500 }) = none
      ∧ (let f := { granite with qf4 := 500 }
         firstFailure 5 [f.qf2 ≤ f.qf1, f.qf3 ≤ f.qf2, f.qf4 ≤ f.qf3, f.qf5 ≤ f.qf4] = some 7)
      ∧ firstFailure 1 (setRanges { granite with cf1 := 1024, cf2 := 1024, cf5 := 161 }) = none
      ∧ (let f := { granite with cf1 := 1024, cf2 := 1024, cf5 := 161 }
         firstFailure 5 [f.qf2 ≤ f.qf1, f.qf3 ≤ f.qf2, f.qf4 ≤ f.qf3, f.qf5 ≤ f.qf4] = none
           ∧ firstFailure 13 [f.cf1 ≤ f.cf0, f.cf2 ≤ f.cf1, f.cf3 ≤ f.cf2, f.cf4 ≤ f.cf3, f.cf5 ≤ f.cf4] = some 17))
    ∧ (Ready proposed .pendant ∧ proposed.setups.sets[3].content = .proposed granite
      ∧ 2 = proposed.setups.sets[3].number)
    ∧ (∀ f, proposed.setups.sets[3].content = .proposed f → 1 ≠ proposed.setups.sets[3].number)
    ∧ (∀ f, proposed.setups.sets[4].content = .proposed f → 0 ≠ proposed.setups.sets[4].number)
    ∧ (∀ f, proposed.setups.sets[0].content = .proposed f → 1 ≠ proposed.setups.sets[0].number) :=
  ⟨by decide +kernel, by decide +kernel, by decide +kernel, by decide +kernel, fun _ _ => by decide +kernel,
    fun _ h => (nomatch (show SetContent.empty = .proposed _ from h)),
    fun _ h => (nomatch (show SetContent.approved granite = .proposed _ from h))⟩

theorem witness_WriteSetupTaken :
    (Takes State.reset .cell (.writeSetup setup) ∧ State.reset.cyc.mstate = .unconfigured
      ∧ programHeld State.reset = false)
    ∧ (Takes (idle .service) .cell (.writeSetup setup) ∧ (idle .service).cyc.mstate = .idle
      ∧ programHeld (idle .service) = false)
    ∧ firstFailure 1 (setupRanges setup) = none ∧ setupInconsistency setup = none
    ∧ (∀ a : Axis, ((idle .service).chan a).deviation.natAbs ≤ (setup.axes.get a).followingLimit)
    ∧ (let s := { faulted with ports := { faulted.ports with keyMode := .service } }
       Takes s .cell (.writeSetup setup) ∧ s.cyc.mstate ≠ .unconfigured ∧ s.cyc.mstate ≠ .idle)
    ∧ (let s := holding2 (recordOf .sealed .static .probe false) [] (idle .service)
       Takes s .cell (.writeSetup setup) ∧ s.contour? 2 = some (recordOf .sealed .static .probe false))
    ∧ (∀ c, (idle .service).contour? c = none)
    ∧ firstFailure 1 (setupRanges { setup with jetTimeLimit := 4000000001, accel := 9999 }) = some 34
    ∧ (let m := { setup with accel := 400001 }
       firstFailure 1 (setupRanges m) = none ∧ setupInconsistency m = some 35) :=
  ⟨by decide +kernel, by decide +kernel, by decide +kernel, by decide +kernel, by intro a; cases a <;> decide +kernel,
    by decide +kernel, by decide +kernel, by decide +kernel, by decide +kernel, by decide +kernel⟩

/-- SERVICE with the jet time one second below its limit of 10 s. -/
def wearing : State :=
  { idle .service with
    setups := { (idle .service).setups with setup := some { setup with jetTimeLimit := 10, pierceCountLimit := 5 } }
    jet := { Jet.reset with jetTime := 9000 } }

theorem witness_AccumulatorsLoaded :
    (Takes wearing .cell (.setAccumulators 10 4) ∧ wearing.setups.setup.isSome = true)
      ∧ (let s := { State.reset with ports := { State.reset.ports with keyMode := .service } }
         Takes s .cell (.setAccumulators 0 0) ∧ s.setups.setup = none) := by
  decide +kernel

/-- R110: limits of 10 s and 5 pierces newly reached, a second alert into a full record, and a mark cleared. -/
theorem test_set_accumulators :
    let load := fun t n => after (.setAccumulators .cell 0 t n) wearing
    ((load 10 4).jet.wearJetTime, (load 10 4).jet.wearPierceCount, (load 10 4).cyc.cycleStop) = (true, false, true)
      ∧ ((load 9 5).alert.map fun r => (r.code, r.detail.accumulator, r.further)) = some (.wear, some .pierceCount, 0)
      ∧ ((load 10 5).alert.map fun r => (r.detail.accumulator, r.further, r.latest)) = some (some .jetTime, 1, some .wear)
      ∧ (load 9 4).alert = none
      ∧ (after (.setAccumulators .cell 0 0 0) { load 10 4 with ports := wearing.ports }).jet.wearJetTime = false := by
  decide +kernel

theorem witness_Declare :
    (Ready idle .cell ∧ idle.cyc.mstate ≠ .unconfigured ∧ idle.loading = none ∧ idle.contour? 31 = none
      ∧ idle.setups.sets[0].content = .approved granite ∧ idle.setups.setup = some setup
      ∧ granite.pCut ≤ setup.pumpMax ∧ granite.backup ≤ setup.backupReach
      ∧ setup.nominalSurface + granite.hPierce ≤ setup.axes.z.softMax
      ∧ setup.nominalSurface + granite.hCut ≤ setup.axes.z.softMax)
    ∧ (Ready State.reset .cell ∧ State.reset.cyc.mstate = .unconfigured)
    ∧ (let t := fun (c n q pm sm : Nat) =>
         [decide (c ≤ 31), decide (n ≤ 7), decide (1 ≤ q ∧ q ≤ 5), decide (pm ≤ 2), decide (sm ≤ 1)]
       firstFailure 1 (t 32 8 0 3 2) = some 1 ∧ firstFailure 1 (t 31 7 6 2 2) = some 3
         ∧ firstFailure 1 (t 31 7 5 2 2) = some 5)
    ∧ (tapLoaded.loading ≠ none ∧ Ready { tapLoaded with ports := idle.ports } .cell)
    ∧ (cutting.loading = none ∧ cutting.contour? 2 ≠ none)
    ∧ (idle.contour? 0 = none ∧ idle.setups.sets[7].isApproved = false)
    ∧ (setup.pumpMax < { granite with pCut := 4001 }.pCut ∧ setup.backupReach < { granite with backup := 20001 }.backup
      ∧ setup.axes.z.softMax < { setup with nominalSurface := 92001 }.nominalSurface + granite.hPierce
      ∧ setup.axes.z.softMax < { setup with nominalSurface := 97001 }.nominalSurface + granite.hCut)
    ∧ (let s := { faulted with setups := { faulted.setups with setup := none } }
       Ready s .cell ∧ s.cyc.mstate ≠ .unconfigured ∧ s.loading = none ∧ s.contour? 0 = none
         ∧ s.setups.sets[0].isApproved = true ∧ s.setups.setup = none) := by
  decide +kernel

/-- IDLE with contour 2 declared and empty. -/
def declared : State := { after (.declare .cell 0 2 0 3 0 0) idle with ports := idle.ports }

/-- What the Program Store keeps of the tap hole's entries. -/
def tapKept : List (SegClass × Computed) :=
  match validate setup none 1 tapEntries with
  | .ok r => r.1
  | .error _ => []

/-- The LOADING record of contour 2. -/
def loadingRecord (stored : Nat) : Contour := { Contour.declared 0 3 .static .probe with stored := stored }

/-- Contour 2 LOADING with a stored segment count. -/
def loadingWith (stored : Nat) (segs : List Segment) : State := holding2 (loadingRecord stored) segs idle

/-- A test of what the Geometry Unit accepts. -/
def accepts (r : Except Status Computed) (test : Computed → Bool) : Bool :=
  match r with
  | .ok g => test g
  | .error _ => false

theorem witness_Append :
    (Ready declared .cell ∧ declared.contour? 2 = some (loadingRecord 0) ∧ (loadingRecord 0).status = .loading
      ∧ declared.setups.setup = some setup
      ∧ validate setup ((declared.segmentsOf 2).getLast?.map fun g => (g.cls, g.finish)) 1 tapEntries = .ok (tapKept, 0)
      ∧ tapKept.length = 5 ∧ (loadingRecord 195).stored + tapKept.length ≤ 200 ∧ tapKept.length ≤ declared.freeSlots
      ∧ declared.prog.nextSeq + tapKept.length ≤ 4294967296)
    ∧ (¬ (1 ≤ ([] : List Entry).length ∧ ([] : List Entry).length ≤ 8)
      ∧ ¬ (1 ≤ (List.replicate 9 (⟨0, .line, false, 0, 0⟩ : Entry)).length
          ∧ (List.replicate 9 (⟨0, .line, false, 0, 0⟩ : Entry)).length ≤ 8))
    ∧ idle.statusOf 2 ≠ some .loading
    ∧ validate setup none 1 [⟨0, .line, false, 0, 0⟩, ⟨5, .line, false, 0, 0⟩] = .error (.range, 2)
    ∧ ((loadingWith 196 []).contour? 2 = some (loadingRecord 196)
      ∧ 200 < (loadingRecord 196).stored + tapKept.length)
    ∧ (let s := loadingWith 10 (List.replicate 252 (seg 1 .traverse .loaded))
       s.contour? 2 = some (loadingRecord 10) ∧ (loadingRecord 10).stored + 5 ≤ 200 ∧ s.freeSlots < 5
         ∧ ∃ r, validate setup ((s.segmentsOf 2).getLast?.map fun g => (g.cls, g.finish)) 1
             [⟨0, .line, false, 1, 0⟩, ⟨0, .line, false, 2, 0⟩, ⟨0, .line, false, 3, 0⟩, ⟨0, .line, false, 4, 0⟩,
              ⟨0, .line, false, 5, 0⟩] = .ok r ∧ r.1.length = 5)
    ∧ (let s := { declared with prog := { declared.prog with nextSeq := 4294967292 } }
       s.contour? 2 = some (loadingRecord 0) ∧ (loadingRecord 0).stored + tapKept.length ≤ 200
         ∧ tapKept.length ≤ s.freeSlots ∧ 4294967295 < s.prog.nextSeq + tapKept.length - 1)
    ∧ (accepts (computeEntry setup .cut ⟨2, .line, false, 7, 0⟩ (some ⟨7, 0⟩))
        (fun g => g.shape == .line && g.start == some g.finish) = true
      ∧ accepts (computeEntry setup .cut ⟨2, .line, false, 8, 0⟩ (some ⟨7, 0⟩)) (fun g => !(g.start == some g.finish)) = true
      ∧ accepts (computeEntry setup .cut ⟨2, .line, false, 8000001, 0⟩ (some ⟨7, 0⟩)) (fun _ => true) = false
      ∧ [SegClass.traverse, .leadin, .cut, .tab, .leadout][3]? = some .tab) :=
  ⟨by decide +kernel, by decide +kernel, by decide +kernel, by decide +kernel, by decide +kernel,
    ⟨by decide +kernel, by decide +kernel, by decide +kernel, _, rfl, by decide +kernel⟩,
    by decide +kernel, by decide +kernel⟩

/-- R29, R30: a second TAB is refused with ORDER and its index, and an entry of zero length is no previous segment. -/
theorem test_class_order :
    (validate setup (some (.traverse, ⟨0, 0⟩)) 1 [⟨3, .line, false, 9, 0⟩, ⟨3, .line, false, 8, 0⟩]).toOption = none
      ∧ (validate setup (some (.traverse, ⟨0, 0⟩)) 1 [⟨4, .line, false, 0, 0⟩, ⟨1, .line, false, 9, 0⟩]).toOption.map
          (fun r => (r.1.length, r.2)) = some (1, 1) := by
  decide +kernel

/-- Three LOADED segments of contour 2, a cut between leads. -/
def threeLoaded : List Segment := [seg 1 .leadin .loaded, seg 2 .cut .loaded, seg 3 .leadout .loaded]

/-- RUNNING WAIT, with no contour active. -/
def waiting (s : State) : State := { s with cyc := { s.cyc with mstate := .running, phase := some .wait } }

/-- Contour 2 LOADING with a pierce method and segments. -/
def loadingAs (pm : PierceMethod) (segs : List Segment) : State :=
  holding2 { loadingRecord segs.length with method := pm } segs idle

/-- A lead-in of a length before a cut. -/
def leadThenCut (lead : SegClass) (len : Nat) : List Segment :=
  [{ seg 1 lead .loaded with length := some len }, seg 2 .cut .loaded]

theorem witness_SealTaken :
    (let s := loadingWith 3 threeLoaded
     Ready s .cell ∧ s.contour? 2 = some (loadingRecord 3) ∧ s.setFields 0 = some granite
       ∧ s.setups.setup = some setup ∧ ((s.segmentsOf 2).filter fun g => g.cls.isJet) = threeLoaded
       ∧ (∃ g ∈ threeLoaded, g.cls = .cut) ∧ threeLoaded.head? = some (seg 1 .leadin .loaded)
       ∧ threeLoaded.getLast? = some (seg 3 .leadout .loaded) ∧ (loadingRecord 3).method ≠ .creep
       ∧ ¬ (s.cyc.mstate = .running ∧ s.cyc.phase = some .wait))
    ∧ (let s := loadingAs .creep (leadThenCut .leadin 400)
       ((s.segmentsOf 2).filter fun g => g.cls.isJet).head? = some { seg 1 .leadin .loaded with length := some 400 }
         ∧ granite.vCreep * granite.tRamp / 1000 ≤ 400)
    ∧ (∀ height ∈ [(0 : Int), setup.zClearance],
       let s := (waiting (loadingWith 3 threeLoaded)).onAxis .z fun c => { c with command := height }
       Ready s .cell ∧ s.contour? 2 = some (loadingRecord 3) ∧ s.cyc.mstate = .running ∧ s.cyc.phase = some .wait
         ∧ s.cyc.cycleStop = false ∧ s.prog.runList = []
         ∧ (s.axes.z.command ≠ setup.zClearance ↔ height = 0))
    ∧ 32 ≤ 32 ∧ idle.contour? 2 = none ∧ (recordOf .sealed .static .probe false).status ≠ .loading
    ∧ (let s := loadingAs .static [seg 1 .traverse .loaded, seg 2 .leadin .loaded]
       Ready s .cell ∧ ∀ g ∈ (s.segmentsOf 2).filter fun g => g.cls.isJet, g.cls ≠ .cut)
    ∧ (∀ segs ∈ [[seg 1 .tab .loaded, seg 2 .cut .loaded], [seg 1 .cut .loaded, seg 2 .tab .loaded]],
       let s := loadingAs .static segs
       Ready s .cell ∧ s.setFields 0 = some granite ∧ (∃ g ∈ segs, g.cls = .cut)
         ∧ ((s.segmentsOf 2).filter fun g => g.cls.isJet) = segs
         ∧ ((segs.head?.map (·.cls)) = some .tab ∨ (segs.getLast?.map (·.cls)) = some .tab))
    ∧ (∀ k ∈ [(SegClass.leadin, 399), (.cut, 400)],
       let s := loadingAs .creep (leadThenCut k.1 k.2)
       Ready s .cell ∧ (leadThenCut k.1 k.2).getLast? = some (seg 2 .cut .loaded)
         ∧ ((s.segmentsOf 2).filter fun g => g.cls.isJet) = leadThenCut k.1 k.2
         ∧ (k.1 ≠ .leadin ∨ k.2 < granite.vCreep * granite.tRamp / 1000)) :=
  ⟨by decide +kernel, by decide +kernel, by decide +kernel, by decide +kernel, by decide +kernel, by decide +kernel,
    by decide +kernel, by decide +kernel, by decide +kernel⟩

/-- R6: the refusals, in their order. -/
theorem test_seal_refused :
    let refused := fun pm segs => status .cell (after (.sealContour .cell 0 2) (loadingAs pm segs))
    refused .creep [seg 1 .tab .loaded] = some .noCut
      ∧ refused .creep [seg 1 .tab .loaded, seg 2 .cut .loaded] = some .order
      ∧ refused .creep (leadThenCut .leadin 399) = some .creepShort
      ∧ refused .creep (leadThenCut .leadin 400) = some .ok := by
  decide +kernel

/-- R18, R112: the replies of SEAL in WAIT and of CYCLE_START are formed before what follows: with Z at clearance, a
TRAVERSE of length 0 and PUMPRDY negated, SEAL carries RUNNING and its machine then holds; CYCLE_START carries
APPROACH and its machine is then in PIERCE. -/
theorem test_replies_precede :
    let segs := [{ seg 1 .traverse .loaded with start := none, finish := ⟨0, 0⟩, length := none, tangents := none, plan := none },
      { seg 2 .leadin .loaded with start := some ⟨0, 0⟩, finish := ⟨100, 0⟩ },
      { seg 3 .cut .loaded with start := some ⟨100, 0⟩, finish := ⟨200, 0⟩ }]
    let s := holding2 { loadingRecord 3 with surfaceMode := .carry } segs idle
    let s := s.onAxis .z fun c => { c with command := setup.zClearance, encoder := setup.zClearance }
    let high : ProcessSet := { granite with hPierce := 60000 }
    let s := { s with setups := { s.setups with sets := s.setups.sets.set 0 { number := 1, content := .approved high } } }
    let sealed := after (.sealContour .cell 0 2) { waiting s with lines := .quiet }
    let started := after (.cycleStart .pendant 1) (after (.sealContour .cell 0 2) s)
    (sealed.ports.cell.reply.map fun r => r.body.head?) = some (some (BitVec.ofNat 8 MachineState.running.number))
      ∧ sealed.cyc.mstate = .held
      ∧ (started.ports.pendant.reply.map (·.status)) = some .ok ∧ started.cyc.phase = some .pierce := by
  decide +kernel

theorem witness_ClearContour :
    (let s := loadingWith 3 threeLoaded
     Ready s .cell ∧ s.contour? 2 = some (loadingRecord 3) ∧ (loadingRecord 3).status ≠ .active ∧ StoreLaw s
       ∧ ¬ ((loadingRecord 3).status = .loading ∧ s.cyc.phase = some .wait
           ∧ s.prog.runList.filter (· != (2 : Fin Config.contours)) = []))
    ∧ (let s := waiting (loadingWith 3 threeLoaded)
       StoreLaw s ∧ (loadingRecord 3).status = .loading ∧ s.cyc.phase = some .wait
         ∧ s.prog.runList.filter (· != (2 : Fin Config.contours)) = [])
    ∧ idle.contour? 2 = none ∧ Ready cutting .cell ∧ cutting.statusOf 2 = some .active := by
  decide +kernel

theorem witness_ClearProgram : Ready idle .cell ∧ idle.cyc.mstate = .idle ∧ Ready cutting .cell ∧ cutting.cyc.mstate ≠ .idle := by
  decide +kernel

/-- `cutting` with commands in its queue. -/
def queued (i : Instr) (s : State) : State := { s with pending := [i] }

theorem witness_StepsKeepStoreLaws :
    (∃ t, step (queued .segmentCompletion cutting) = .next t)
      ∧ StoreLaw cutting ∧ SequenceLaw cutting ∧ cutting.prog.segments.length = 3
      ∧ (∃ t, step (queued (.declare .cell 0 3 0 3 0 0) (loadingWith 3 threeLoaded)) = .next t)
      ∧ (loadingWith 3 threeLoaded).statusOf 2 = some .loading ∧ LoadingLaw (loadingWith 3 threeLoaded) :=
  ⟨⟨_, rfl⟩, by decide +kernel, by decide +kernel, rfl, ⟨_, rfl⟩, by decide +kernel, by decide +kernel⟩

theorem witness_StepsKeepRunList :
    (∃ t, step (queued .estopAssert cutting) = .next t) ∧ RunListLaw cutting ∧ CycleLaw cutting :=
  ⟨⟨_, rfl⟩, by decide +kernel, by simp [CycleLaw, cutting, cycleOn, holding2, idle, MachineState.inCycle, State.reset,
    State.resetWith, Homing.reset, CycleController.reset]⟩

theorem witness_StoredGeometry :
    accepts (computeEntry setup .traverse ⟨0, .line, false, 3200000, -100000⟩ none) (fun g => g.start == none) = true
    ∧ accepts (computeEntry setup .cut ⟨2, .line, false, 100, 0⟩ (some ⟨0, 0⟩)) (fun g => g.shape == .line) = true
    ∧ accepts (computeEntry setup .cut ⟨2, .arc 500000 300000, true, 517500, 300000⟩ (some ⟨517500, 300000⟩))
        (fun g => g.shape == .arc .cw ⟨500000, 300000⟩ 17500 65536) = true
    ∧ accepts (computeEntry setup .cut ⟨2, .arc 500000 300000, false, 500000, 317500⟩ (some ⟨517500, 300000⟩))
        (fun g => g.shape == .arc .ccw ⟨500000, 300000⟩ 17500 16384) = true
    ∧ (axisExtremes ⟨500000, 300000⟩ 17500).map (fun e => withinSweep .ccw ⟨17500, 0⟩ e.1 16384)
        = [true, true, false, false] := by
  decide +kernel

theorem witness_QualitySpeed :
    1 ≤ 5 ∧ 50 ≤ granite.vSep ∧ granite.vSep ≤ 20000 ∧ 64 ≤ granite.qf5 ∧ granite.qf1 ≤ 1024 := by decide

theorem witness_PlannedSpeeds :
    (∀ b, ProcessSet.cf granite b ≤ 1024)
      ∧ (planRun granite setup 3 threeLoaded)[0]?.isSome = true ∧ (planRun granite setup 3 threeLoaded)[2]?.isSome = true :=
  ⟨fun b => match b with
    | 0 => by decide
    | 1 => by decide
    | 2 => by decide
    | 3 => by decide
    | 4 => by decide
    | _ + 5 => (by decide : granite.cf5 ≤ 1024),
    by decide +kernel, by decide +kernel⟩

theorem witness_RetainedWindow :
    [seg 1 .cut .retained] ≠ [] ∧ 2 ≤ (windowKeeps 200 [seg 1 .cut .retained, seg 2 .cut .retained, seg 3 .cut .retained]).length
      ∧ ∃ pre post g, [seg 1 .cut .retained] = pre ++ g :: post
        ∧ windowKeeps 200 [seg 1 .cut .retained, seg 2 .cut .retained, seg 3 .cut .retained]
          = [seg 2 .cut .retained, seg 3 .cut .retained] :=
  ⟨by decide +kernel, by decide +kernel, [], [], seg 1 .cut .retained, rfl, by decide +kernel⟩

/-- IDLE with contour 2 SEALED at the head of the Run List. -/
def sealed : State :=
  let s := holding2 (recordOf .sealed .static .probe false)
    [seg 1 .traverse .planned, seg 2 .leadin .planned, seg 3 .cut .planned] idle
  { s with prog := { s.prog with runList := [2] } }

theorem witness_CycleStartTakes :
    (Takes sealed .pendant .cycleStart ∧ sealed.cyc.mstate = .idle ∧ allHomed sealed = true
      ∧ sealed.prog.runList = [2] ∧ sealed.lines.pumprdy = true ∧ sealed.jet.wearJetTime = false
      ∧ sealed.jet.wearPierceCount = false ∧ sealed.lines.contact = false
      ∧ sealed.contour? 2 = some (recordOf .sealed .static .probe false) ∧ sealed.setups.setup = some setup
      ∧ sealed.setFields 0 = some granite ∧ sealed.axes.z.command ≠ setup.zClearance)
    ∧ (∀ a, (sealed.chan a).homed = true)
    ∧ (let s := loadingWith 3 threeLoaded
       Takes s .pendant .cycleStart ∧ s.cyc.mstate = .idle ∧ allHomed s = true ∧ s.prog.runList = []
         ∧ s.loading ≠ none
         ∧ s.lines.pumprdy = true ∧ s.jet.wearJetTime = false ∧ s.jet.wearPierceCount = false
         ∧ s.lines.contact = false)
    ∧ (Takes cutting .pendant .cycleStart ∧ cutting.cyc.mstate ≠ .idle)
    ∧ (let s := { idle with axes := State.reset.axes }
       Takes s .pendant .cycleStart ∧ s.cyc.mstate = .idle ∧ allHomed s = false)
    ∧ (Takes idle .pendant .cycleStart ∧ idle.cyc.mstate = .idle ∧ allHomed idle = true ∧ idle.prog.runList = [] ∧ idle.loading = none)
    ∧ (let s := { sealed with lines := .quiet }
       Takes s .pendant .cycleStart ∧ s.cyc.mstate = .idle ∧ allHomed s = true ∧ s.prog.runList ≠ []
         ∧ s.lines.pumprdy = false)
    ∧ (let s := { sealed with jet := { Jet.reset with wearPierceCount := true } }
       Takes s .pendant .cycleStart ∧ s.cyc.mstate = .idle ∧ allHomed s = true ∧ s.prog.runList ≠ []
         ∧ s.lines.pumprdy = true ∧ s.jet.wearPierceCount = true) :=
  ⟨by decide +kernel, by intro a; cases a <;> decide +kernel, by decide +kernel, by decide +kernel, by decide +kernel,
    by decide +kernel, by decide +kernel, by decide +kernel⟩

/-- Step 4 of a CREEP pierce, in phase CUT. -/
def creeping (deferred : Bool) : State :=
  let s := cycleOn .running .cut .creep .probe false [seg 1 .leadin .active, seg 2 .cut .planned]
  { s with
    cyc := { s.cyc with deferredHold := deferred }
    path := { s.path with cursor := some ⟨1, 10⟩, speedSq := 10000, motion := .run }
    jet := { Jet.reset with state := .ramp, demand := 3800, pierceStep := some 4, pierceTimer := .ramp 4000 4000 } }

/-- RESUMING in a resume step. -/
def resuming (step : ResumeStep) : State :=
  let s := heldIn .resuming .cut (some step)
  { s with path := { s.path with dir := .reverse, motion := .run } }

theorem witness_HoldRequest :
    (Ready (creeping false) .cell ∧ (creeping false).cyc.mstate = .running
      ∧ (creeping false).cyc.abortPending = false ∧ pierceInProgress (creeping false) = true)
    ∧ (Ready cutting .pendant ∧ cutting.cyc.mstate = .running ∧ cutting.cyc.abortPending = false
      ∧ pierceInProgress cutting = false)
    ∧ (let s := resuming .backup
       Ready s .pendant ∧ s.cyc.mstate = .resuming ∧ s.cyc.abortPending = false
         ∧ s.cyc.hold = some (holdIn .cut (some .backup)))
    ∧ (Ready (heldIn .held .cut none) .cell ∧ (heldIn .held .cut none).cyc.mstate = .held)
    ∧ (let s := { cutting with cyc := { cutting.cyc with abortPending := true } }
       Ready s .cell ∧ s.cyc.mstate = .running ∧ s.cyc.abortPending = true)
    ∧ (Ready idle .cell ∧ idle.cyc.mstate.inCycle = false) := by
  decide +kernel

/-- `cutting` with the settle, dip and grace timers running, in a machine state. -/
def timed (ms : MachineState) : State :=
  { cutting with
    cyc := { cutting.cyc with mstate := ms }
    jet := { cutting.jet with settle := .running 3000, dip := .running 300, abrasiveGrace := .running 400 } }

/-- RUNNING PROBE in the descent. -/
def probing : State :=
  { cycleOn .running .probe .static .probe false [seg 1 .leadin .planned] with zmotion := .probing (-20000) }

theorem witness_HoldCauses :
    (let s := timed .running
     Live s ∧ s.cyc.mstate = .running ∧ s.cyc.abortPending = false ∧ s.jet.settle = .running 3000
       ∧ s.jet.dip = .running 300 ∧ s.jet.abrasiveGrace = .running 400 ∧ s.lines.pumprdy = true ∧ s.jet.state ≠ .closed
       ∧ s.ports.keyMode ≠ .service)
    ∧ (let s := timed .resuming
       Live s ∧ s.cyc.mstate = .resuming ∧ s.cyc.abortPending = false ∧ s.jet.settle = .running 3000
         ∧ s.jet.dip = .running 300 ∧ s.jet.abrasiveGrace = .running 400 ∧ s.lines.pumprdy = true
         ∧ s.jet.state ≠ .closed ∧ s.ports.keyMode ≠ .service)
    ∧ (Live probing ∧ probing.cyc.mstate = .running ∧ probing.zmotion = .probing (-20000)
      ∧ probing.jet.state = .closed)
    ∧ (∀ ms ∈ [MachineState.holding, .held, .fault],
        Live (timed ms) ∧ (timed ms).cyc.mstate = ms ∧ (timed ms).jet.settle = .running 3000
          ∧ (timed ms).jet.dip = .running 300 ∧ (timed ms).jet.abrasiveGrace = .running 400)
    ∧ (let s := { timed .resuming with cyc := { (timed .resuming).cyc with abortPending := true } }
       Live s ∧ s.cyc.mstate = .resuming ∧ s.cyc.abortPending = true ∧ s.jet.settle = .running 3000)
    ∧ (∀ ms ∈ [MachineState.holding, .held], let s := heldIn ms .cut none
        Live s ∧ s.cyc.mstate = ms ∧ s.ports.keyMode ≠ .service ∧ s.jet.state = .closed)
    ∧ (Live faulted ∧ faulted.cyc.mstate = .fault ∧ faulted.ports.keyMode ≠ .service ∧ faulted.jet.state = .closed)
    ∧ (let s := { heldIn .running .cut none with cyc := { (heldIn .running .cut none).cyc with abortPending := true } }
       Live s ∧ s.cyc.mstate = .running ∧ s.cyc.abortPending = true ∧ s.ports.keyMode ≠ .service
         ∧ s.jet.state = .closed) := by
  decide +kernel

theorem witness_CycleStopAndAbort :
    (Ready cutting .cell ∧ cutting.cyc.mstate.inCycle = true ∧ cutting.cyc.phase ≠ some .wait)
    ∧ (Ready (waiting idle) .pendant ∧ (waiting idle).cyc.mstate.inCycle = true ∧ (waiting idle).cyc.phase = some .wait)
    ∧ (Ready faulted .cell ∧ faulted.cyc.mstate.inCycle = false)
    ∧ (cutting.cyc.mstate = .running ∧ cutting.cyc.abortPending = false ∧ atRest cutting = false)
    ∧ ((resuming .rejoin).cyc.mstate = .resuming ∧ atRest (resuming .rejoin) = false)
    ∧ (Ready probing .cell ∧ probing.cyc.mstate = .running ∧ probing.cyc.phase = some .probe ∧ atRest probing = false
      ∧ probing.activeSet = some granite)
    ∧ (let s := { cutting with cyc := { cutting.cyc with abortPending := true } }
       Ready s .cell ∧ s.cyc.mstate = .running ∧ s.cyc.phase ≠ some .wait ∧ s.cyc.abortPending = true)
    ∧ (let s := heldIn .resuming .cut (some .kerfStart)
       Ready s .cell ∧ s.cyc.mstate = .resuming ∧ s.cyc.abortPending = false ∧ atRest s = true
         ∧ s.cyc.phase ≠ some .wait ∧ s.cyc.active = some 2)
    ∧ (Ready (jogging .jogging) .cell ∧ (jogging .jogging).cyc.mstate = .jogging ∧ (jogging .jogging).jog.axis ≠ none)
    ∧ (Ready (heldIn .held .cut none) .cell ∧ (heldIn .held .cut none).cyc.mstate = .held
      ∧ (heldIn .held .cut none).cyc.phase ≠ some .wait ∧ (heldIn .held .cut none).cyc.active = some 2)
    ∧ (idle.cyc.mstate = .idle ∧ State.reset.cyc.mstate = .unconfigured ∧ faulted.cyc.mstate = .fault) := by
  decide +kernel

/-- HELD by a pump loss with PUMPRDY still negated. -/
def heldByPump : State :=
  { heldIn .held .cut none with
    lines := .quiet
    cyc := { (heldIn .held .cut none).cyc with hold := some { holdIn .cut none with cause := .pump } } }

/-- HELD in PIERCE, for a pierce method. -/
def heldPiercing (pm : PierceMethod) : State :=
  (heldIn .held .pierce none).setContour 2 (some (recordOf .active pm .probe false))

/-- A state HELD in WAIT, with the cycle-stop flag as given. -/
def heldWaiting (stop : Bool) (s : State) : State :=
  { s with cyc := { s.cyc with mstate := .held, phase := some .wait, hold := some (holdIn .wait none), cycleStop := stop } }

theorem witness_ResumeRestartsPhase :
    (Takes cutting .pendant .resume ∧ cutting.cyc.mstate ≠ .held)
    ∧ (Takes heldByPump .pendant .resume ∧ heldByPump.cyc.mstate = .held
      ∧ heldByPump.cyc.hold = some { holdIn .cut none with cause := .pump } ∧ heldByPump.lines.pumprdy = false)
    ∧ (∀ ph ∈ [Phase.approach, .probe, .retract],
        let s := heldIn .held ph none
        Takes s .pendant .resume ∧ s.cyc.mstate = .held ∧ s.cyc.hold = some (holdIn ph none)
          ∧ (holdIn ph none).cause = .request ∧ s.setups.setup = some setup ∧ s.axes.z.command ≠ setup.zClearance
          ∧ (holdIn ph none).phase = ph)
    ∧ (∀ pm ∈ [PierceMethod.static, .creep, .drilled],
        let s := heldPiercing pm
        let r := recordOf .active pm .probe false
        Takes s .pendant .resume ∧ s.cyc.mstate = .held ∧ s.cyc.hold = some (holdIn .pierce none)
          ∧ s.setups.setup = some setup ∧ s.activeContour = some r ∧ s.activeSet = some granite ∧ s.jet.AtRest
          ∧ s.axes.z.command
            ≠ min (r.surfaceZ.getD setup.nominalSurface + (if r.method = .creep then granite.hCut else granite.hPierce))
                setup.axes.z.softMax)
    ∧ (let s := heldWaiting true sealed
       Takes s .pendant .resume ∧ s.cyc.mstate = .held ∧ s.cyc.hold = some (holdIn .wait none)
         ∧ (holdIn .wait none).phase = .wait ∧ s.cyc.cycleStop = true)
    ∧ (let s := heldWaiting false idle
       Takes s .pendant .resume ∧ s.cyc.cycleStop = false ∧ s.prog.runList = [] ∧ s.loading = none)
    ∧ (let s := heldWaiting false (loadingWith 3 threeLoaded)
       Takes s .pendant .resume ∧ s.cyc.cycleStop = false ∧ s.prog.runList = [] ∧ s.loading ≠ none)
    ∧ (let s := heldWaiting false sealed
       Takes s .pendant .resume ∧ s.cyc.cycleStop = false ∧ s.prog.runList = [2]
         ∧ s.contour? 2 = some (recordOf .sealed .static .probe false) ∧ s.setFields 0 = some granite
         ∧ s.setups.setup = some setup ∧ s.axes.z.command ≠ setup.zClearance) :=
  ⟨by decide +kernel, by decide +kernel, by decide +kernel, by decide +kernel, by decide +kernel, by decide +kernel,
    by decide +kernel, by decide +kernel⟩

/-- HELD in CUT at a stop point, for a record, with PFB outside the band of P_cut. -/
def heldAt (stop : Pos) (r : Contour) : State :=
  let s := (heldIn .held .cut none).setContour 2 (some r)
  { s with
    lines := { s.lines with pfb := 3699 }, cyc := { s.cyc with hold := some { holdIn .cut none with stop := some stop } } }

theorem witness_ResumeBacksUp :
    (let s := heldAt ⟨2, 60⟩ (recordOf .active .static .probe true)
     Takes s .pendant .resume ∧ s.cyc.mstate = .held ∧ s.cyc.hold = some (holdIn .cut none)
       ∧ s.activeContour = some (recordOf .active .static .probe true) ∧ s.activeSet = some granite
       ∧ s.activeJets.head? = some (seg 1 .leadin .retained) ∧ s.jet.AtRest ∧ s.jet.demand = 0
       ∧ walkBack (s.activeJets.reverse.filter fun x => x.seq ≤ 2) 40 granite.backup = some ⟨1, 0⟩
       ∧ (⟨2, 60⟩ : Pos) ≠ ⟨1, 0⟩)
    ∧ (let s := heldAt ⟨2, 60⟩ (recordOf .active .creep .probe false)
       Takes s .pendant .resume ∧ s.activeContour = some (recordOf .active .creep .probe false)
         ∧ s.jet.AtRest ∧ (⟨2, 60⟩ : Pos) ≠ ⟨1, 0⟩)
    ∧ (let s := heldAt ⟨1, 0⟩ (recordOf .active .static .probe true)
       Takes s .pendant .resume ∧ s.cyc.mstate = .held
         ∧ s.cyc.hold = some { holdIn .cut none with stop := some ⟨1, 0⟩ }
         ∧ s.activeContour = some (recordOf .active .static .probe true) ∧ s.activeSet = some granite
         ∧ s.activeJets.head? = some (seg 1 .leadin .retained) ∧ s.jet.AtRest ∧ s.jet.demand = 0
         ∧ walkBack (s.activeJets.reverse.filter fun x => x.seq ≤ 2) 40 granite.backup = some ⟨1, 0⟩
         ∧ s.cyc.abortPending = false ∧ s.setups.setup = some setup ∧ s.lines.pumprdy = true ∧ granite.pCut ≠ 0
         ∧ setup.pressureBand < absDiff s.lines.pfb granite.pCut ∧ 0 < setup.abrasiveDelay)
    ∧ (let segs := [seg 2 .cut .active, seg 1 .leadin .retained]
       segs ≠ [] ∧ (∀ g0, segs.head? = some g0 → 40 ≤ g0.len) ∧ walkBack segs 40 41 = some ⟨1, 99⟩
         ∧ walkBack segs 40 40 = some ⟨2, 0⟩) :=
  ⟨by decide +kernel, by decide +kernel, by decide +kernel,
    ⟨by decide +kernel, fun g0 h => by cases h; decide +kernel, by decide +kernel, by decide +kernel⟩⟩

theorem witness_OverrideAndKeyMode :
    (Ready idle .pendant ∧ idle.path.cursor = none)
    ∧ (Ready cutting .pendant ∧ cutting.setups.setup = some setup ∧ cutting.path.cursor = some ⟨2, 40⟩
      ∧ cutting.cursorSegment = some (seg 2 .cut .active) ∧ (seg 2 .cut .active).cls ≠ .traverse
      ∧ (seg 2 .cut .active).plan.isSome = true ∧ cutting.path.dir = .forward ∧ cutting.path.motion ≠ .rest)
    ∧ (Live idle ∧ idle.ports.keyMode ≠ .setup)
    ∧ (let s := heldIn .held .cut none
       let s := { s with ports := { s.ports with keyMode := .service } }
       Live s ∧ s.ports.keyMode ≠ .production ∧ s.path.motion = .rest ∧ s.cyc.mstate ≠ .homing
         ∧ s.cyc.mstate ≠ .jogging ∧ s.cyc.mstate ≠ .fault) := by
  decide +kernel

theorem witness_StepsKeepOverrideAndRecord :
    (∃ t, step (queued (.setOverride .pendant 0 0) (idle .setup)) = .next t)
      ∧ OverrideLaw (idle .setup) ∧ RecordLaw (idle .setup) ∧ QueueLaw (queued (.setOverride .pendant 0 0) (idle .setup)) :=
  ⟨⟨_, rfl⟩, by decide +kernel, by simp [RecordLaw, idle, State.reset, State.resetWith, Jet.reset, Config.maxJetTime,
    Config.maxPierceCount], by decide +kernel⟩

theorem witness_StepsKeepValvesClosed :
    (∃ t, step (queued (.hold .cell 0) cutting) = .next t) ∧ cutting.jet.state ≠ .closed ∧ ValvesLaw cutting :=
  ⟨⟨_, rfl⟩, by decide +kernel, by decide +kernel⟩

/-- A pierce of a method, with the jet as given. -/
def piercing (pm : PierceMethod) (j : Jet) : State :=
  { cycleOn .running .pierce pm .probe false [seg 1 .leadin .active, seg 2 .cut .planned] with
    jet := j, path := { (idle).path with cursor := some ⟨1, 0⟩ } }

/-- The jet in LOW in the T_low dwell. -/
def lowJet : Jet := { Jet.reset with state := .low, demand := 800, bandIn := true, pierceStep := some 3, pierceTimer := .tLow 1500 }

/-- The jet in RAMP. -/
def rampJet (k : Nat) (demand : Nat) : Jet :=
  { Jet.reset with state := .ramp, demand := demand, pierceStep := some 4, pierceTimer := .ramp k 4000 }

theorem witness_PierceTimers :
    (∀ pm ∈ [PierceMethod.static, .creep, .drilled],
      let s := piercing pm lowJet
      Live s ∧ s.cyc.mstate = .running ∧ s.cyc.phase = some .pierce ∧ s.setups.setup = some setup
        ∧ s.activeContour = some (recordOf .active pm .probe false) ∧ s.activeSet = some granite
        ∧ s.jet.state = .low ∧ s.jet.pierceTimer = .tLow 1500 ∧ 0 < granite.tRamp ∧ s.jet.demand = granite.pPierce
        ∧ (recordOf .active pm .probe false).method = pm)
    ∧ (let s := piercing .static (rampJet 3999 3799)
       Live s ∧ s.activeSet = some granite ∧ s.jet.state = .ramp ∧ s.jet.pierceTimer = .ramp 3999 4000 ∧ 3999 < 4000)
    ∧ (let s := piercing .static (rampJet 4000 3800)
       Live s ∧ s.cyc.phase = some .pierce ∧ s.jet.state = .ramp ∧ s.jet.pierceTimer = .ramp 4000 4000
         ∧ s.jet.demand = granite.pCut ∧ s.jet.bandIn = false)
    ∧ (let s := piercing .drilled { Jet.reset with state := .cut, pierceStep := some 3, pierceTimer := .tDwell 500 }
       let r := recordOf .active .drilled .probe false
       s.jet.pierceTimer = .tDwell 500
         ∧ s.axes.z.command ≠ min (r.surfaceZ.getD setup.nominalSurface + granite.hCut) setup.axes.z.softMax)
    ∧ ∀ deferred : Bool, let s := creeping deferred
       Live s ∧ s.cyc.mstate = .running ∧ s.cyc.abortPending = false ∧ s.cyc.phase = some .cut
         ∧ s.setups.setup = some setup ∧ s.cyc.active = some 2
         ∧ s.contour? 2 = some (recordOf .active .creep .probe false) ∧ s.activeSet = some granite
         ∧ s.jet.state = .ramp ∧ s.jet.pierceTimer = .ramp 4000 4000 ∧ s.jet.demand = granite.pCut
         ∧ s.jet.bandIn = false ∧ s.cyc.deferredHold = deferred := by
  decide +kernel

theorem witness_JetSupervision :
    (Live idle ∧ idle.setups.setup = some setup ∧ idle.lines.abrflow = false)
    ∧ (cutting.lines.abrflow = true ∧ cutting.jet.abrasiveWatch = true ∧ 0 < setup.abrasiveGrace)
    ∧ (let s := { cutting with jet := { cutting.jet with abrasiveWatch := false, abrasiveDelay := .running 800 } }
       Live s ∧ s.lines.abrflow = true ∧ s.jet.abrasiveWatch = false ∧ s.jet.abrasiveDelay = .running 800)
    ∧ (idle.jet.state = .closed ∧ (piercing .static (rampJet 0 800)).jet.state = .ramp)
    ∧ (Live cutting ∧ cutting.jet.state = .cut ∧ cutting.jet.bandIn = true ∧ cutting.jet.dipWatch = true
      ∧ setup.pressureBand < absDiff 3699 cutting.jet.demand)
    ∧ (let s := { cutting with jet := { cutting.jet with bandIn := false, dip := .running 300 } }
       s.jet.bandIn = false ∧ s.jet.settle = .stopped ∧ absDiff 3700 s.jet.demand ≤ setup.pressureBand)
    ∧ (let s := { cutting with jet := { cutting.jet with bandIn := false, settle := .running 3000, dipWatch := false } }
       Live s ∧ s.setups.setup = some setup ∧ s.activeContour = some (recordOf .active .static .probe true)
         ∧ s.activeSet = some granite ∧ s.cyc.mstate = .running ∧ s.jet.bandIn = false
         ∧ s.jet.settle = .running 3000 ∧ absDiff 3900 s.jet.demand ≤ setup.pressureBand ∧ s.jet.state = .cut
         ∧ s.jet.pierceStep = none)
    ∧ (let s := piercing .static
         { Jet.reset with state := .low, demand := 800, settle := .running 3000, pierceStep := some 2 }
       Live s ∧ s.jet.bandIn = false ∧ s.jet.settle = .running 3000
         ∧ absDiff 700 s.jet.demand ≤ setup.pressureBand ∧ s.jet.state = .low ∧ s.jet.pierceStep = some 2
         ∧ 0 < granite.tLow) := by
  decide +kernel

/-- `cutting` one millisecond below a jet time limit of 10 s, with an alert in the record. -/
def nearLimit : State :=
  { cutting with
    setups := { cutting.setups with setup := some { setup with jetTimeLimit := 10 } }
    jet := { cutting.jet with jetTime := 9999 }
    alert := some (alertOf .abrasive) }

theorem witness_JetTimeCounts :
    (Live idle ∧ idle.jet.state = .closed) ∧ (Live nearLimit ∧ nearLimit.jet.state ≠ .closed)
      ∧ (let t := after .jetTimeCount nearLimit
         t.jet.wearJetTime = true ∧ nearLimit.jet.wearJetTime = false
           ∧ t.jet.wearPierceCount = nearLimit.jet.wearPierceCount ∧ nearLimit.alert = some (alertOf .abrasive))
      ∧ (let t := after .jetTimeCount cutting
         t.jet.wearJetTime = cutting.jet.wearJetTime ∧ t.jet.wearPierceCount = cutting.jet.wearPierceCount) := by
  decide +kernel

/-- RUNNING APPROACH on the first of two segments, of which the second has a class. -/
def traversing (cls : SegClass) (contact : Bool) : State :=
  let s := cycleOn .running .approach .static .probe false [seg 1 .traverse .active, seg 2 cls .planned]
  { s with
    lines := { s.lines with contact := contact }
    path := { s.path with cursor := some ⟨1, 99⟩, speedSq := 10000, motion := .run } }

/-- The last jet segment under the cursor. -/
def lastJet : State :=
  let s := cycleOn .running .cut .static .probe true [seg 1 .leadin .retained, seg 2 .leadout .active]
  { s with path := { s.path with cursor := some ⟨2, 100⟩, speedSq := 11236, motion := .run }, jet := cutJet }

/-- The jet in TAB in band with its dip watch armed. -/
def tabJet : Jet := { cutJet with state := .tab, demand := 2000 }

/-- `cutting` with classes on segments 2 and 3, a jet and a PFB. -/
def cuttingOn (c d : SegClass) (j : Jet) (pfb : Nat) : State :=
  { cutting with
    prog := { cutting.prog with segments := [seg 1 .leadin .retained, seg 2 c .active, seg 3 d .planned] }
    jet := j, lines := { cutting.lines with pfb := pfb } }

theorem witness_SegmentsComplete :
    (Live cutting ∧ SequenceLaw cutting ∧ cutting.setups.setup = some setup ∧ cutting.cyc.active = some 2
      ∧ cutting.contour? 2 = some (recordOf .active .static .probe true) ∧ cutting.path.cursor = some ⟨2, 40⟩
      ∧ cutting.cursorSegment = some (seg 2 .cut .active) ∧ cutting.path.dir = .forward ∧ cutting.path.motion ≠ .rest
      ∧ (seg 2 .cut .active).cls.isJet = true ∧ segmentAfter cutting 2 = some (seg 3 .cut .planned)
      ∧ cutting.jet.state ≠ .tab)
    ∧ (let s := cuttingOn .cut .tab cutJet 3790
       Live s ∧ SequenceLaw s ∧ s.cursorSegment = some (seg 2 .cut .active)
         ∧ segmentAfter s 2 = some (seg 3 .tab .planned) ∧ s.activeSet = some granite ∧ s.jet.state = .cut
         ∧ valvesAllowed s.cyc = true ∧ granite.pTab ≠ s.jet.demand
         ∧ setup.pressureBand < absDiff s.lines.pfb granite.pTab)
    ∧ (let s := cuttingOn .tab .leadout tabJet 2000
       Live s ∧ SequenceLaw s ∧ s.cursorSegment = some (seg 2 .tab .active)
         ∧ segmentAfter s 2 = some (seg 3 .leadout .planned) ∧ s.activeSet = some granite ∧ s.jet.state = .tab
         ∧ valvesAllowed s.cyc = true ∧ granite.pCut ≠ s.jet.demand
         ∧ setup.pressureBand < absDiff s.lines.pfb granite.pCut)
    ∧ (let s := (traversing .leadin false).setContour 2 (some (recordOf .active .creep .carry false))
       Live s ∧ SequenceLaw s ∧ s.setups.setup = some setup
         ∧ s.contour? 2 = some (recordOf .active .creep .carry false) ∧ s.cyc.mstate = .running
         ∧ s.cyc.abortPending = false ∧ (s.segmentsOf 2).head? = some (seg 1 .traverse .active)
         ∧ (s.segmentsOf 2)[1]? = some (seg 2 .leadin .planned) ∧ s.activeSet = some granite
         ∧ s.axes.z.command ≠ min (s.cyc.surface.getD setup.nominalSurface + granite.hCut) setup.axes.z.softMax)
    ∧ (Live lastJet ∧ SequenceLaw lastJet ∧ lastJet.cursorSegment = some (seg 2 .leadout .active)
      ∧ segmentAfter lastJet 2 = none ∧ lastJet.cyc.mstate = .running ∧ lastJet.cyc.abortPending = false
      ∧ lastJet.path.motion ≠ .rest ∧ lastJet.axes.z.command ≠ setup.zClearance)
    ∧ (let s := traversing .traverse false
       Live s ∧ SequenceLaw s ∧ s.setups.setup = some setup
         ∧ s.contour? 2 = some (recordOf .active .static .probe false)
         ∧ s.cursorSegment = some (seg 1 .traverse .active) ∧ (s.segmentsOf 2).head? = some (seg 1 .traverse .active)
         ∧ (s.segmentsOf 2)[1]? = some (seg 2 .traverse .planned) ∧ s.path.dir = .forward ∧ s.path.motion ≠ .rest)
    ∧ SequenceLaw (traversing .leadin false) ∧ SequenceLaw (traversing .leadin true)
    ∧ ∀ contact : Bool, let s := traversing .leadin contact
       Live s ∧ s.cyc.mstate = .running ∧ s.cyc.abortPending = false
         ∧ s.cursorSegment = some (seg 1 .traverse .active) ∧ (s.segmentsOf 2)[1]? = some (seg 2 .leadin .planned)
         ∧ (recordOf .active .static .probe false).surfaceMode = .probe ∧ s.lines.contact = contact :=
  ⟨⟨by decide +kernel, by decide +kernel, by decide +kernel⟩, ⟨by decide +kernel, by decide +kernel, by decide +kernel⟩,
    ⟨by decide +kernel, by decide +kernel, by decide +kernel⟩, ⟨by decide +kernel, by decide +kernel, by decide +kernel⟩,
    ⟨by decide +kernel, by decide +kernel, by decide +kernel⟩, ⟨by decide +kernel, by decide +kernel, by decide +kernel⟩,
    by decide +kernel, by decide +kernel, by decide +kernel⟩

/-- A cursor on RETAINED segment 1, with a class on segment 2. -/
def onRetained (cls : SegClass) (dir : CursorDir) (j : Jet) : State :=
  let s := cycleOn .running .cut .static .probe true [seg 1 .leadin .retained, seg 2 cls .active]
  { s with path := { s.path with cursor := some ⟨1, 99⟩, dir := dir, speedSq := 10000, motion := .run }, jet := j }

theorem witness_BoundariesPass :
    (let s := resuming .backup
     Live s ∧ s.setups.setup = some setup ∧ s.path.cursor = some ⟨2, 40⟩
       ∧ s.cursorSegment = some (seg 2 .cut .active) ∧ s.path.motion ≠ .rest
       ∧ s.segment? 1 = some (seg 1 .leadin .retained) ∧ s.path.dir = .reverse
       ∧ segmentBefore s 2 = some (seg 1 .leadin .retained))
    ∧ (let s := onRetained .cut .forward cutJet
       Live s ∧ s.path.cursor = some ⟨1, 99⟩ ∧ s.cursorSegment = some (seg 1 .leadin .retained)
         ∧ s.segment? 2 = some (seg 2 .cut .active) ∧ s.path.dir = .forward
         ∧ segmentAfter s 1 = some (seg 2 .cut .active) ∧ s.jet.state = .cut)
    ∧ (let s := onRetained .tab .forward cutJet
       Live s ∧ segmentAfter s 1 = some (seg 2 .tab .active) ∧ s.jet.state = .cut ∧ valvesAllowed s.cyc = true
         ∧ s.activeSet = some granite ∧ granite.pTab ≠ s.jet.demand
         ∧ setup.pressureBand < absDiff s.lines.pfb granite.pTab)
    ∧ (let s := onRetained .cut .forward tabJet
       Live s ∧ segmentAfter s 1 = some (seg 2 .cut .active) ∧ s.jet.state = .tab ∧ valvesAllowed s.cyc = true
         ∧ s.activeSet = some granite ∧ granite.pCut ≠ s.jet.demand
         ∧ setup.pressureBand < absDiff s.lines.pfb granite.pCut) := by
  decide +kernel

theorem witness_KerfStartAndRejoin :
    (let s := { resuming .backup with lines := { (resuming .backup).lines with pfb := 3699 } }
     Live s ∧ s.cyc.mstate = .resuming ∧ s.cyc.phase = some .cut ∧ s.cyc.abortPending = false
       ∧ s.cyc.hold = some (holdIn .cut (some .backup)) ∧ (holdIn .cut (some .backup)).rejoin = some ⟨1, 0⟩
       ∧ s.path.motion = .run ∧ s.setups.setup = some setup
       ∧ s.activeContour = some (recordOf .active .static .probe true) ∧ s.activeSet = some granite ∧ s.jet.AtRest
       ∧ s.jet.demand = 0 ∧ s.lines.pumprdy = true ∧ granite.pCut ≠ 0
       ∧ setup.pressureBand < absDiff s.lines.pfb granite.pCut
       ∧ 0 < setup.abrasiveDelay)
    ∧ (let s := (resuming .backup).setContour 2 (some (recordOf .active .creep .probe false))
       let r := recordOf .active .creep .probe false
       Live s ∧ s.cyc.mstate = .resuming ∧ s.cyc.phase = some .cut ∧ s.cyc.abortPending = false
         ∧ s.cyc.hold = some (holdIn .cut (some .backup)) ∧ s.path.motion = .run ∧ s.setups.setup = some setup
         ∧ s.activeContour = some r ∧ r.pierceComplete = false ∧ s.activeSet = some granite ∧ s.jet.AtRest
         ∧ s.axes.z.command ≠ min (r.surfaceZ.getD setup.nominalSurface + granite.hCut) setup.axes.z.softMax)
    ∧ (∀ ready : Bool,
       let s := ((resuming .backup).setContour 2 (some (recordOf .active .creep .probe false))).onAxis .z
         fun c => { c with command := 3000 }
       let s := { s with lines := { s.lines with pumprdy := ready, pfb := 0 } }
       let r := recordOf .active .creep .probe false
       Live s ∧ s.cyc.mstate = .resuming ∧ s.cyc.phase = some .cut ∧ s.cyc.abortPending = false
         ∧ s.cyc.suspension = false ∧ s.cyc.hold = some (holdIn .cut (some .backup)) ∧ s.path.motion = .run
         ∧ s.setups.setup = some setup ∧ s.activeContour = some r ∧ r.pierceComplete = false ∧ r.method = .creep
         ∧ s.activeSet = some granite ∧ s.jet.AtRest ∧ s.jet.demand = 0 ∧ granite.pPierce ≠ 0
         ∧ s.axes.z.command = min (r.surfaceZ.getD setup.nominalSurface + granite.hCut) setup.axes.z.softMax
         ∧ s.lines.pumprdy = ready ∧ setup.pressureBand < absDiff s.lines.pfb granite.pPierce
         ∧ setup.pierceCountLimit = 0 ∧ setup.jetTimeLimit = 0 ∧ 0 < setup.abrasiveDelay)
    ∧ (let s := { resuming .kerfStart with jet := { cutJet with pierceTimer := .tRejoin 1000 } }
       Live s ∧ s.cyc.hold = some (holdIn .cut (some .kerfStart)) ∧ s.jet.pierceTimer = .tRejoin 1000
         ∧ s.cursorSegment = some (seg 2 .cut .active) ∧ (seg 2 .cut .active).cls ≠ .tab ∧ s.jet.state = .cut)
    ∧ (let s := { resuming .rejoin with
         jet := cutJet, path := { (resuming .rejoin).path with cursor := some ⟨2, 41⟩, dir := .forward } }
       Live s ∧ s.cyc.mstate = .resuming ∧ s.cyc.phase = some .cut ∧ s.cyc.abortPending = false
         ∧ s.cyc.hold = some (holdIn .cut (some .rejoin)) ∧ s.setups.setup = some setup ∧ s.path.motion = .run
         ∧ s.path.cursor = some ⟨2, 41⟩ ∧ s.cursorSegment = some (seg 2 .cut .active)
         ∧ (⟨2, 40⟩ : Pos).behind ⟨2, 41⟩ = true ∧ s.jet.demand = demandOf s) :=
  ⟨by decide +kernel, by decide +kernel, by decide +kernel, by decide +kernel, by decide +kernel⟩

/-- HOLDING in phase CUT with the path and Z as given. -/
def slowing (p : PathMotion) (z : ZMotion) (aborting : Bool) : State :=
  let s := heldIn .holding .cut none
  { s with
    path := { s.path with motion := p, speedSq := if p = .rest then 0 else 10000 }
    zmotion := z
    cyc := { s.cyc with abortPending := aborting } }

theorem witness_spent :
    ∀ p ∈ [PathMotion.rest, .decel], ∀ z ∈ [ZMotion.rest, .stopProbe, .stopMove 5], ∀ aborting : Bool,
      let s := slowing p z aborting
      s.setups.setup = some setup ∧ s.path.speedSq < 2 * setup.accelHold := by
  decide +kernel

/-- HOLDING on a line of 45 degrees whose next micrometre brings no pulse, with the speed for one more. -/
def freeMicrometre : State :=
  let s := slowing .decel .stopProbe false
  let g : Segment := { seg 2 .cut .active with start := some ⟨0, 0⟩, finish := ⟨71, 71⟩ }
  { s with
    prog := { s.prog with segments := [seg 1 .leadin .retained, g] }
    path := { s.path with cursor := some ⟨2, 1⟩, speedSq := 1200000 }
    axes := { s.axes with x := { s.axes.x with command := 1 }, y := { s.axes.y with command := 1 } } }

theorem witness_RestReports :
    (let s := slowing .decel .rest false
     Live s ∧ s.path.motion = .decel ∧ s.zmotion = .rest ∧ s.cyc.abortPending = false ∧ s.cyc.mstate = .holding
       ∧ s.cyc.hold = some (holdIn .cut none))
    ∧ (let s := freeMicrometre
       ∃ g, Live s ∧ s.path.motion = .decel ∧ s.setups.setup = some setup ∧ s.path.cursor = some ⟨2, 1⟩
         ∧ s.cursorSegment = some g ∧ g.seq = 2 ∧ s.path.dir = .forward ∧ 1 < g.len ∧ rejoining s = false
         ∧ 2 * setup.accelHold ≤ s.path.speedSq ∧ s.path.speedSq < 4 * setup.accelHold
         ∧ (g.pointAt 2).x = s.axes.x.command ∧ (g.pointAt 2).y = s.axes.y.command ∧ s.zmotion ≠ .rest)
    ∧ (let s := slowing .decel .stopProbe false
       Live s ∧ s.path.motion = .decel ∧ s.zmotion ≠ .rest)
    ∧ (let s := slowing .decel .rest true
       Live s ∧ s.cyc.abortPending = true ∧ s.cyc.active = some 2
         ∧ s.contour? 2 = some (recordOf .active .static .probe true))
    ∧ (let s := slowing .rest (.stopMove 5) false
       Live s ∧ s.zmotion = .stopMove 5 ∧ s.path.motion = .rest ∧ s.cyc.abortPending = false
         ∧ s.cyc.mstate = .holding ∧ s.cyc.hold = some (holdIn .cut none)) :=
  ⟨by decide +kernel, ⟨_, by decide +kernel, rfl, rfl, rfl, rfl, by decide +kernel⟩, by decide +kernel, by decide +kernel,
    by decide +kernel⟩

/-- RUNNING in a phase with Z moving for a purpose. -/
def lifting (ph : Phase) (purpose : ZPurpose) (segs : List Segment) : State :=
  { cycleOn .running ph .static .probe false segs with zmotion := .moving 60000 purpose }

/-- A contour's first TRAVERSE, which has no start point until it becomes ACTIVE. -/
def firstTraverse : Segment :=
  { seg 1 .traverse .planned with start := none, length := none, tangents := none, plan := none }

/-- RUNNING PIERCE at a step of a method, with Z moving to a height. -/
def piercingAt (pm : PierceMethod) (z : Int) (purpose : ZPurpose) (j : Jet) : State :=
  { cycleOn .running .pierce pm .probe false [seg 1 .leadin .active] with zmotion := .moving z purpose, jet := j }

theorem witness_ZMovesComplete :
    (let s := lifting .approach .approach [firstTraverse, seg 2 .leadin .planned]
     Live s ∧ s.setups.setup = some setup ∧ s.cyc.mstate = .running ∧ s.cyc.abortPending = false
       ∧ s.cyc.suspension = false ∧ s.cyc.active = some 2
       ∧ s.contour? 2 = some (recordOf .active .static .probe false) ∧ s.zmotion = .moving 60000 .approach
       ∧ (s.segmentsOf 2).head? = some firstTraverse ∧ firstTraverse.cls = .traverse
       ∧ firstTraverse.state = .planned ∧ firstTraverse.start = none
       ∧ (firstTraverse.finish.sub ⟨s.axes.x.command, s.axes.y.command⟩).norm ≠ 0)
    ∧ (∀ pm ∈ [PierceMethod.static, .creep, .drilled],
        let s := piercingAt pm 8000 .pierceStep { Jet.reset with demand := 800, pierceStep := some 1 }
        Live s ∧ s.setups.setup = some setup ∧ s.cyc.mstate = .running ∧ s.cyc.abortPending = false
          ∧ s.cyc.suspension = false ∧ s.cyc.active = some 2 ∧ s.contour? 2 = some (recordOf .active pm .probe false)
          ∧ s.zmotion = .moving 8000 .pierceStep ∧ s.cyc.phase = some .pierce ∧ s.jet.pierceStep = some 1
          ∧ s.activeSet = some granite ∧ s.jet.state = .closed ∧ s.lines.pumprdy = true ∧ s.jet.bandIn = false
          ∧ setup.pressureBand < absDiff s.lines.pfb granite.pPierce
          ∧ setup.pressureBand < absDiff s.lines.pfb granite.pCut ∧ setup.pierceCountLimit = 0
          ∧ setup.jetTimeLimit = 0 ∧ 0 < setup.abrasiveDelay)
    ∧ (∀ deferred : Bool, ∀ k ∈ [(PierceMethod.static, 7), (.drilled, 4)],
        let s := piercingAt k.1 3000 .pierceStep { cutJet with pierceStep := some k.2 }
        let s := { s with cyc := { s.cyc with deferredHold := deferred } }
        Live s ∧ s.cyc.mstate = .running ∧ s.cyc.abortPending = false ∧ s.cyc.suspension = false
          ∧ s.zmotion = .moving 3000 .pierceStep ∧ s.cyc.phase = some .pierce
          ∧ s.contour? 2 = some (recordOf .active k.1 .probe false) ∧ s.jet.pierceStep = some k.2
          ∧ s.activeSet = some granite ∧ s.jet.state = .cut ∧ s.jet.demand = granite.pCut
          ∧ s.cyc.deferredHold = deferred)
    ∧ (∀ contact : Bool,
        let s := lifting .probe .reprobe [seg 1 .leadin .planned]
        let s := { s with lines := { s.lines with contact := contact } }
        Live s ∧ s.setups.setup = some setup ∧ s.cyc.mstate = .running ∧ s.cyc.suspension = false
          ∧ s.zmotion = .moving 60000 .reprobe ∧ s.lines.contact = contact)
    ∧ (let s := lifting .retract .retract [seg 1 .leadin .retained]
       Live s ∧ s.setups.setup = some setup ∧ s.cyc.mstate = .running ∧ s.cyc.abortPending = false
         ∧ s.cyc.suspension = false ∧ s.cyc.active = some 2
         ∧ s.contour? 2 = some (recordOf .active .static .probe false)
         ∧ s.zmotion = .moving 60000 .retract ∧ s.cyc.phase = some .retract ∧ s.prog.runList = []
         ∧ s.loading = none ∧ (recordOf .active .static .probe false).status = .active) :=
  ⟨by decide +kernel, by decide +kernel, by decide +kernel, by decide +kernel, by decide +kernel⟩

theorem witness_ProbeContact :
    (Live probing ∧ probing.setups.setup = some setup ∧ probing.cyc.active = some 2
      ∧ probing.contour? 2 = some (recordOf .active .static .probe false) ∧ probing.activeSet = some granite
      ∧ probing.zmotion = .probing (-20000) ∧ probing.lines.contact = false)
    ∧ (let s := { probing with zmotion := .contactStop }
       Live s ∧ s.zmotion = .contactStop ∧ s.cyc.mstate = .running ∧ s.cyc.abortPending = false
         ∧ s.axes.z.command ≠ min (setup.nominalSurface + granite.hPierce) setup.axes.z.softMax)
    ∧ (let s := { probing with
         zmotion := .moving 8000 .pierceRise, lines := { probing.lines with contact := true }
         cyc := { probing.cyc with suspension := true } }
       Live s ∧ s.zmotion = .moving 8000 .pierceRise ∧ s.cyc.suspension = true ∧ s.lines.contact = true)
    ∧ (∀ pm ∈ [PierceMethod.static, .creep, .drilled],
        let s := piercingAt pm 8000 .pierceRise { Jet.reset with demand := 800 }
        let s := { s with
          prog := { s.prog with segments := [seg 1 .leadin .planned] }
          cyc := { s.cyc with phase := some .probe, suspension := true } }
        let r := recordOf .active pm .probe false
        Live s ∧ s.setups.setup = some setup ∧ s.contour? 2 = some r ∧ s.activeSet = some granite
          ∧ s.zmotion = .moving 8000 .pierceRise ∧ s.cyc.mstate = .running ∧ s.cyc.abortPending = false
          ∧ s.lines.contact = false ∧ s.activeJets.head? = some (seg 1 .leadin .planned) ∧ s.jet.state = .closed
          ∧ s.jet.demand = granite.pPierce
          ∧ 8000 ≠ min (r.surfaceZ.getD setup.nominalSurface + granite.hCut) setup.axes.z.softMax
          ∧ 8000 = min (r.surfaceZ.getD setup.nominalSurface + granite.hPierce) setup.axes.z.softMax
          ∧ s.lines.pumprdy = true ∧ s.jet.bandIn = false ∧ setup.pressureBand < absDiff s.lines.pfb granite.pPierce
          ∧ setup.pressureBand < absDiff s.lines.pfb granite.pCut) := by
  decide +kernel

theorem witness_AxisCounters :
    (after (.stepPulse .x) cutting).cyc.mstate = cutting.cyc.mstate
    ∧ (Live idle ∧ idle.setups.setup = some setup ∧ idle.cyc.mstate = .idle)
    ∧ (let s := lifting .approach .approach []
       Live s ∧ s.cyc.mstate.inCycle = true ∧ s.zmotion = .moving 60000 .approach ∧ s.axes.z.command ≠ 60000
         ∧ (s.axes.z.command + 1 - s.axes.z.encoder).natAbs ≤ setup.axes.z.followingLimit)
    ∧ (let s := cutting.onAxis .x fun c => { c with command := 239, encoder := 240 }
       Live s ∧ s.cyc.mstate = .running ∧ s.path.cursor = some ⟨2, 40⟩
         ∧ s.cursorSegment = some (seg 2 .cut .active) ∧ (seg 2 .cut .active).pointAt 40 = ⟨240, 0⟩
         ∧ (s.chan .x).command ≠ 240 ∧ ((240 : Int) - (s.chan .x).encoder).natAbs ≤ setup.axes.x.followingLimit
         ∧ (s.chan .y).command = 0 ∧ (s.chan .y).deviation.natAbs ≤ setup.axes.y.followingLimit)
    ∧ (let s := cutting.onAxis .x fun c => { c with command := 240, encoder := 240 }
       Live s ∧ s.cyc.mstate = .running ∧ s.path.cursor = some ⟨2, 40⟩
         ∧ s.cursorSegment = some (seg 2 .cut .active) ∧ s.path.dir = .forward ∧ s.path.motion = .run
         ∧ 40 < (seg 2 .cut .active).len ∧ (seg 2 .cut .active).pointAt 41 = ⟨241, 0⟩
         ∧ ((seg 2 .cut .active).plan.map fun pl => decide (0 < pl.cruise * s.path.override / 100)) = some true
         ∧ s.axes.x.command = 240 ∧ s.axes.y.command = 0
         ∧ ((241 : Int) - s.axes.x.encoder).natAbs ≤ setup.axes.x.followingLimit)
    ∧ (let s := homing .z .seek
       Live s ∧ s.cyc.mstate = .homing ∧ s.homing.axis = some .z ∧ s.homing.step = some .seek
         ∧ s.homing.stop = .none ∧ s.homing.travel < seekLimit (setup.axes.get .z)
         ∧ ((s.chan .z).command + 1 - (s.chan .z).encoder).natAbs ≤ (setup.axes.get .z).followingLimit)
    ∧ (faulted.cyc.mstate = .fault ∧ faulted.jog.axis ≠ some .x ∧ State.reset.cyc.mstate = .unconfigured)
    ∧ (idle.cyc.mstate ≠ .fault ∧ idle.cyc.mstate ≠ .unconfigured
      ∧ (let s := idle.onAxis .x fun c => { c with command := 1000, encoder := 1 }
         ((s.chan .x).command - ((s.chan .x).encoder - 1)).natAbs ≤ (setup.axes.get .x).followingLimit)) := by
  decide +kernel

/-- `homing` with a home input asserted and a homing stop. -/
def homingWith (a : Axis) (st : HomingStep) (asserted : Bool) (stop : HomingStop) : State :=
  let s := homing a st
  { s with lines := { s.lines with homes := s.lines.homes.set a asserted }, homing := { s.homing with stop := stop } }

theorem witness_HomingBegins :
    (Takes (idle .setup) .pendant (.home 3) ∧ (idle .setup).cyc.mstate = .idle ∧ 0 = axisNumber .x ∧ 2 = axisNumber .z)
    ∧ (Takes (jogging .jogging) .pendant (.home 0) ∧ (jogging .jogging).cyc.mstate ≠ .idle ∧ 4 ≤ 4)
    ∧ (let s := homingWith .y .seek false .none
       Live s ∧ s.setups.setup = some setup ∧ s.homing.axis = some .y ∧ s.homing.step = some .seek
         ∧ s.homing.stop = .none ∧ s.lines.homes.get .y = false)
    ∧ (Live idle ∧ idle.homing.axis ≠ some .y)
    ∧ (let s := homingWith .y .clear true .none
       Live s ∧ s.homing.axis = some .y ∧ s.homing.step = some .clear ∧ s.homing.stop = .none
         ∧ s.lines.homes.get .y = true)
    ∧ (let s := homingWith .y .clear false .clearing
       Live s ∧ s.setups.setup = some setup ∧ s.homing.axis = some .y ∧ s.homing.step = some .clear
         ∧ s.homing.stop = .clearing) := by
  decide +kernel

/-- HOMING of X at a step and a command position, with axes remaining. -/
def homingAt (st : HomingStep) (p : Int) (rest : List Axis) : State :=
  let s := homing .x st
  { s with
    homing := { s.homing with remaining := rest }
    axes := { s.axes with x := { Channel.reset with command := p, encoder := p } } }

theorem witness_HomingEnds :
    (∀ p ∈ [(-100000 : Int), 3200000], let s := homingAt .settle p []
      Live s ∧ s.setups.setup = some setup ∧ s.homing.axis = some .x ∧ s.homing.step = some .settle
        ∧ s.homing.stop = .none ∧ (setup.axes.get .x).softMin ≤ (s.chan .x).command
        ∧ (s.chan .x).command ≤ (setup.axes.get .x).softMax ∧ s.homing.remaining = [])
    ∧ (let s := homingAt .settle 0 [.y]
       Live s ∧ s.setups.setup = some setup ∧ s.homing.axis = some .x ∧ s.homing.step = some .settle
         ∧ s.homing.stop = .none ∧ s.homing.remaining = [.y] ∧ Axis.y ≠ .x)
    ∧ (let s := homingAt .settle (-100001) []
       Live s ∧ s.homing.axis = some .x ∧ s.homing.step = some .settle ∧ s.homing.stop = .none
         ∧ (s.chan .x).command < (setup.axes.get .x).softMin)
    ∧ (let s := homingAt .ret (-100001) []
       s.homing.step = some .ret ∧ s.homing.stop = .none ∧ (s.chan .x).command < (setup.axes.get .x).softMin
         ∧ s.homing.remaining = [])
    ∧ (let s := homingAt .ret 3200001 []
       s.homing.step = some .ret ∧ s.homing.stop = .none ∧ s.homing.remaining = []
         ∧ (setup.axes.get .x).softMin ≤ (s.chan .x).command ∧ (setup.axes.get .x).softMax < (s.chan .x).command)
    ∧ (let s := { homingAt .seek 0 [.y] with
         homing := { (homingAt .seek 0 [.y]).homing with travel := seekLimit (setup.axes.get .x) } }
       Live s ∧ s.setups.setup = some setup ∧ s.homing.axis = some .x ∧ s.homing.step = some .seek
         ∧ s.homing.stop ≠ .givenUp
         ∧ s.homing.travel ≤ seekLimit (setup.axes.get .x))
    ∧ ((homingAt .seek 0 []).cyc.mstate = .homing ∧ Ready (homingAt .seek 0 []) .cell
      ∧ (homingAt .seek 0 []).ports.keyMode ≠ .production ∧ (homingAt .seek 0 []).path.cursor = none)
    ∧ (let s := homingWith .x .seek false .givenUp
       Live s ∧ s.setups.setup = some setup ∧ s.homing.axis = some .x ∧ s.homing.stop = .givenUp) := by
  decide +kernel

theorem witness_OnlyHomingHomes :
    (∃ t, exec (.homeInputAssert .x) (homingAt .seek 0 []) = .next t)
      ∧ Instr.homeInputAssert .x ≠ .homingSettleAtRest ∧ Instr.homeInputAssert .x ≠ .homingReturnAtRest
      ∧ ((homingAt .seek 0 []).chan .x).homed = false :=
  ⟨⟨_, rfl⟩, nofun, nofun, by decide +kernel⟩

/-- IDLE in SETUP with X at a command position. -/
def xAt (p : Int) : State :=
  let s := idle .setup
  { s with axes := { s.axes with x := { s.axes.x with command := p, encoder := p } } }

theorem witness_JogsStart :
    (let s := xAt 3199999
     Takes s .pendant (.jog 0 1 1) ∧ s.setups.setup = some setup ∧ s.cyc.mstate = .idle
       ∧ ¬ ((s.chan .x).homed = true ∧ (s.chan .x).speedSq = 0 ∧ (s.chan .x).command = setup.axes.x.softMax))
    ∧ (let s := xAt 3200000
       Takes s .pendant (.jog 0 1 0) ∧ s.setups.setup = some setup ∧ s.cyc.mstate = .idle ∧ (s.chan .x).homed = true ∧ (s.chan .x).speedSq = 0
         ∧ (s.chan .x).command = setup.axes.x.softMax)
    ∧ (let s := jogging .jogging
       Takes s .pendant (.jog 0 0 0) ∧ s.cyc.mstate = .jogging ∧ s.jog.axis = some .x
         ∧ ¬ ((s.chan .x).homed = true ∧ (s.chan .x).speedSq = 0 ∧ (s.chan .x).command = setup.axes.x.softMin))
    ∧ (let s := jogging .fault
       Takes s .pendant (.jog 0 1 1) ∧ s.cyc.mstate = .fault ∧ s.cyc.faultCause = some (.limit .x .neg)
         ∧ Side.neg ≠ .pos ∧ s.lines.estop = false)
    ∧ (let s := xAt 3150000
       Takes s .pendant (.jogStep 0 100000) ∧ (100000 : Int).natAbs ≤ 100000 ∧ s.cyc.mstate = .idle
         ∧ (s.chan .x).command ≠ setup.axes.x.softMax)
    ∧ (let s := xAt 3200000
       Takes s .pendant (.jogStep 0 1) ∧ s.cyc.mstate = .idle ∧ (s.chan .x).speedSq = 0 ∧ (s.chan .x).command = setup.axes.x.softMax)
    ∧ (let s := (jogging .jogging).onAxis .x fun c => { c with speedSq := 25000000 }
       Takes s .pendant (.jogStep 0 1000) ∧ (1000 : Int).natAbs ≤ 100000 ∧ s.cyc.mstate = .jogging
         ∧ s.jog.axis = some .x ∧ (s.chan .x).speedSq ≠ 0)
    ∧ (∀ p ∈ [(0 : Int), 3199999],
       let s := (jogging .jogging).onAxis .x fun c =>
         { c with homed := true, command := p, encoder := p, dir := .pos, speedSq := 2000000 }
       let s := s.onJog fun j => { j with kind := some .step, target := some 7, slowing := true }
       Live s ∧ s.cyc.mstate = .jogging ∧ s.jog.axis = some .x ∧ s.jog.target = some 7 ∧ s.jog.slowing = true
         ∧ s.jog.stopping = false ∧ 2 * setup.axes.x.acceleration ≤ (s.chan .x).speedSq
         ∧ setup.axes.x.softMin ≤ p + 1 ∧ p + 1 ≤ setup.axes.x.softMax
         ∧ (p + 1 - (s.chan .x).encoder).natAbs ≤ setup.axes.x.followingLimit)
    ∧ (Takes (idle .setup) .pendant (.jog 3 2 2) ∧ 100000 < (100001 : Int).natAbs)
    ∧ (Takes (jogging .jogging) .pendant (.jog 1 0 0) ∧ (jogging .jogging).jog.axis ≠ some .y)
    ∧ (Takes (homing .z .seek) .pendant (.jog 0 0 0) ∧ (homing .z .seek).cyc.mstate = .homing)
    ∧ (Takes faulted .pendant (.jog 0 0 0) ∧ faulted.cyc.mstate = .fault
      ∧ faulted.cyc.faultCause = some .estop) := by
  refine ⟨?_, ?_, ?_, ?_, ?_, ?_, ?_, ?_, ?_, ?_, ?_, ?_⟩ <;> decide +kernel

theorem witness_JogsEnd :
    (let s := jogging .jogging
     s.setups.setup = some setup ∧ Takes s .pendant .jogRefresh ∧ s.jog.kind = some .continuous
       ∧ s.jog.stopping = false ∧ Ready s .pendant ∧ s.jog.axis ≠ none ∧ Live s ∧ s.jog.keep = .running 300
       ∧ s.jog.target = none ∧ s.cyc.mstate ≠ .fault ∧ (s.chan .x).homed = true ∧ s.jog.direction = some .pos
       ∧ s.cyc.mstate = .jogging ∧ s.ports.keyMode ≠ .production ∧ s.path.cursor = none)
    ∧ (Takes (idle .setup) .pendant .jogRefresh ∧ (idle .setup).jog.kind ≠ some .continuous
      ∧ (idle .setup).jog.axis = none ∧ (idle .setup).jog.keep = .stopped)
    ∧ (let s := { jogging .jogging with jog := { (jogging .jogging).jog with kind := some .step, target := some 7 } }
       s.jog.stopping = false ∧ s.jog.target = some 7 ∧ s.cyc.mstate = .jogging)
    ∧ (let s := { jogging .fault with jog := { (jogging .fault).jog with stopping := true } }
       s.jog.stopping = true ∧ s.cyc.mstate = .fault ∧ s.cyc.faultCause = some (.limit .x .neg)) := by
  decide +kernel

theorem witness_FaultAction :
    (Live cutting ∧ cutting.lines.estop = false ∧ cutting.cyc.mstate ≠ .fault)
    ∧ (Live faulted ∧ faulted.lines.estop = false ∧ faulted.cyc.mstate = .fault ∧ faulted.jog.axis = none
      ∧ faulted.cyc.faultCause = some .estop ∧ faulted.lines.limit .x .neg = false)
    ∧ (let s := jogging .fault
       Live s ∧ s.lines.estop = false ∧ s.cyc.mstate = .fault ∧ s.jog.axis = some .x
         ∧ s.cyc.faultCause = some (.limit .x .neg) ∧ s.lines.limit .x .neg = false
         ∧ s.lines.limit .x .pos = false ∧ s.lines.limit .y .neg = false
         ∧ FaultCause.limit .x .neg ≠ .limit .x .pos ∧ FaultCause.limit .x .neg ≠ .limit .y .neg)
    ∧ cutting.lines.limit .z .pos = false
    ∧ (cutting.lines.contact = false ∧ cutting.cyc.mstate.inCycle = true ∧ cutting.zmotion.isDescent = false
      ∧ cutting.cyc.suspension = false)
    ∧ (idle.lines.contact = false ∧ idle.zmotion.isDescent = false ∧ idle.cyc.mstate.inCycle = false)
    ∧ (let s := idle.onAxis .y fun c => { c with encoder := 1000 }
       Live s ∧ s.setups.setup = some setup ∧ s.cyc.mstate ≠ .fault ∧ s.cyc.mstate ≠ .unconfigured
         ∧ (setup.axes.get .y).encoderReverse = 0
         ∧ (setup.axes.get .y).followingLimit < ((s.chan .y).command - ((s.chan .y).encoder + 1)).natAbs)
    ∧ (let s := (lifting .approach .approach []).onAxis .z fun c => { c with encoder := -1000 }
       Live s ∧ s.cyc.mstate.inCycle = true ∧ s.zmotion = .moving 60000 .approach ∧ s.axes.z.command ≠ 60000
         ∧ setup.axes.z.followingLimit < (s.axes.z.command + 1 - s.axes.z.encoder).natAbs)
    ∧ (let s := cutting.onAxis .x fun c => { c with command := 239, encoder := -761 }
       Live s ∧ s.cyc.mstate = .running ∧ s.path.cursor = some ⟨2, 40⟩
         ∧ s.cursorSegment = some (seg 2 .cut .active) ∧ (seg 2 .cut .active).pointAt 40 = ⟨240, 0⟩
         ∧ (s.chan .x).command ≠ 240 ∧ setup.axes.x.followingLimit < ((240 : Int) - (s.chan .x).encoder).natAbs) := by
  decide +kernel

/-- `faulted` without a Machine Setup. -/
def faultedBare : State := { faulted with setups := .reset }

theorem witness_FaultRelease :
    (Ready faulted .pendant ∧ faulted.cyc.mstate = .fault ∧ faulted.jog.axis = none ∧ faulted.lines.estop = false
      ∧ faulted.lines.firstLimit = none ∧ faulted.setups.setup = some setup)
    ∧ (Ready faultedBare .pendant ∧ faultedBare.cyc.mstate = .fault ∧ faultedBare.jog.axis = none
      ∧ faultedBare.lines.estop = false ∧ faultedBare.lines.firstLimit = none ∧ faultedBare.setups.setup = none)
    ∧ (Ready cutting .pendant ∧ cutting.cyc.mstate ≠ .fault ∧ (jogging .fault).jog.axis ≠ none)
    ∧ (let s := after .estopAssert faulted
       Ready s .pendant ∧ s.cyc.mstate = .fault ∧ s.jog.axis = none ∧ s.lines.estop = true)
    ∧ (let s := after (.limitAssert .y .pos) faulted
       Ready s .pendant ∧ s.cyc.mstate = .fault ∧ s.jog.axis = none ∧ s.lines.firstLimit ≠ none)
    ∧ (Live cutting ∧ cutting.cyc.mstate ≠ .fault)
    ∧ (Live faulted ∧ faulted.cyc.mstate = .fault ∧ faulted.jog.axis = none
      ∧ faulted.cyc.faultCause = some .estop) := by
  decide +kernel

theorem witness_FaultHoldsUntilReleased :
    (∃ t, step (queued .estopNegate faulted) = .next t) ∧ FaultLaw faulted ∧ faulted.cyc.mstate = .fault
      ∧ (∃ t, exec .estopNegate faulted = .next t) ∧ (∀ p tag, Instr.estopNegate ≠ .releaseFault p tag)
      ∧ (∀ p tag code body, Instr.estopNegate ≠ .unknownRequest p tag code body)
      ∧ (∀ p b k, Instr.estopNegate ≠ .characterReceived p b k) ∧ (∀ p, Instr.estopNegate ≠ .replySent p)
      ∧ (∀ v, Instr.estopNegate ≠ .resetInput v) ∧ ∀ v, Instr.estopNegate ≠ .powerOn v :=
  ⟨⟨_, rfl⟩, by decide +kernel, by decide +kernel, ⟨_, rfl⟩, nofun, nofun, nofun, nofun, nofun, nofun⟩

end Sys2Proof.Tests
end

section
/-! CLEAR_PROGRAM (R16). The proof goes by the answer of the owning block in each machine state, and by the general fact
that a request row of the program class on the Cell Port ends in the reply that its owning block gives. -/

namespace Sys2Proof.Proofs

open Sys2Proof.Machine

variable {s t : State} {p : Port} {tag : Byte} {r : Request} {answer : State → Answer}

/-! ### What the end of a request's frame leaves -/

@[simp] theorem frameEnded_prog (p : Port) (s : State) : (frameEnded p s).prog = s.prog := rfl

@[simp] theorem frameEnded_cyc (p : Port) (s : State) : (frameEnded p s).cyc = s.cyc := rfl

/-- The count of the records that are not FREE reads the Contour Table alone, which the frame's end leaves. -/
@[simp] theorem usedRecords_frameEnded (p : Port) (s : State) : usedRecords (frameEnded p s) = usedRecords s := by
  simp only [usedRecords, State.contour?, frameEnded_prog]

/-! ### A request that is admitted ends in the reply of its owning block -/

/-- R187: the requests of the program class are admitted on the Cell Port in every key mode and machine state. -/
theorem takes_of_program (hr : r.access = .program) (h : Ready s .cell) : Takes s .cell r := by
  refine ⟨h, ?_⟩
  rw [Admits, hr]
  rfl

/-- An accepted request is answered OK from the state that its changes give. -/
theorem serve_accepted {items : List Item} (h : Takes s p r) (ha : answer (frameEnded p s) = accepted items t) :
    serve p tag r answer s = sendReply p tag .ok items t := by
  rw [serve_taken s p tag r answer h, ha]
  rfl

/-- A request that its owning block refuses changes nothing but its port. -/
theorem serve_refused_by_owner {st : Status} (h : Takes s p r)
    (ha : answer (frameEnded p s) = refused st (frameEnded p s)) :
    serve p tag r answer s = sendReply p tag st [] (frameEnded p s) := by
  rw [serve_taken s p tag r answer h, ha]
  rfl

/-! ### CLEAR_PROGRAM -/

/-- The Program Store that CLEAR_PROGRAM leaves: the counters stand, all else is gone. -/
def clearedStore (q : ProgramStore) : ProgramStore :=
  { q with contours := Vector.replicate _ none, runList := [], segments := [] }

theorem exec_clearProgram (p : Port) (tag : Byte) (s : State) :
    exec (.clearProgram p tag) s = .next (serve p tag .clearProgram answerClearProgram s) := rfl

theorem answerClearProgram_idle (h : s.cyc.mstate = .idle) :
    answerClearProgram s = accepted (num4 (usedRecords s)) { s with prog := clearedStore s.prog } := by
  rw [answerClearProgram, if_neg (not_not_intro h)]
  rfl

theorem answerClearProgram_not_idle (h : s.cyc.mstate ≠ .idle) : answerClearProgram s = refused .wrongState s :=
  if_pos h

/-- Settles O26, by the two machine-state cases of CLEAR_PROGRAM's answer; the end of the frame changes neither the
machine state nor the records that are counted. -/
theorem clearProgram : Obligations.ClearProgram := by
  intro tag s hready
  have taken : Takes s .cell .clearProgram := takes_of_program rfl hready
  constructor
  · intro hidle
    have answered := answerClearProgram_idle (s := frameEnded .cell s) (by rwa [frameEnded_cyc])
    rw [usedRecords_frameEnded, frameEnded_prog] at answered
    rw [exec_clearProgram, serve_accepted taken answered]
    rfl
  · intro hbusy
    have answered := answerClearProgram_not_idle (s := frameEnded .cell s) (by rwa [frameEnded_cyc])
    rw [exec_clearProgram, serve_refused_by_owner taken answered]

end Sys2Proof.Proofs
end

section
/-! FEED PLANNING (R53, R60 to R63). A plan of a jet run is built from the front by the forward pass, on what the
backward pass left. `PlannedFrom` says of a run and its plans what R62 says, segment by segment; one induction over the
run shows that the two passes give it, and one induction over it reads it off at an index. -/

namespace Sys2Proof.Proofs

open Sys2Proof.Machine

variable {f : ProcessSet} {m : MachineSetup} {a e vq : Nat} {g : Segment} {run : List Segment} {plans : List Plan}

/-! ### isqrt is the square root of the library -/

/-- With fuel for the base-four digits of `n`, the root found is the floor of the exact one. -/
theorem isqrtFuel_eq_sqrt (fuel n : Nat) (h : n < 4 ^ fuel) : isqrtFuel fuel n = n.sqrt := by
  induction fuel generalizing n with
  | zero =>
    obtain rfl : n = 0 := by simpa using h
    rfl
  | succ fuel ih =>
    have hquarter : n / 4 < 4 ^ fuel := by rw [pow_succ] at h; omega
    have below : (n / 4).sqrt * (n / 4).sqrt ≤ n / 4 := Nat.sqrt_le _
    have above : n / 4 < ((n / 4).sqrt + 1) * ((n / 4).sqrt + 1) := Nat.lt_succ_sqrt _
    rw [isqrtFuel, ih _ hquarter]
    generalize (n / 4).sqrt = r at below above
    split
    · next hone => exact Nat.eq_sqrt.mpr ⟨hone, by ring_nf at above ⊢; omega⟩
    · next hzero => exact Nat.eq_sqrt.mpr ⟨by ring_nf at below ⊢; omega, not_le.mp hzero⟩

theorem isqrt_eq_sqrt (n : Nat) : isqrt n = n.sqrt := by
  refine isqrtFuel_eq_sqrt _ n ?_
  calc n < 2 ^ (n.log2 + 1) := Nat.lt_log2_self
    _ ≤ 2 ^ (2 * (n.log2 / 2 + 1)) := Nat.pow_le_pow_right (by decide) (by omega)
    _ = 4 ^ (n.log2 / 2 + 1) := Nat.pow_mul 2 2 _

theorem le_isqrt {v n : Nat} : v ≤ isqrt n ↔ v * v ≤ n := by rw [isqrt_eq_sqrt, Nat.le_sqrt]

/-! ### The quality speed (R53) -/

/-- The quality factors in the order of the qualities 1 to 5. -/
theorem qf_eq_getD (f : ProcessSet) {q : Nat} (hlow : 1 ≤ q) (hhigh : q ≤ 5) :
    ProcessSet.qf f q = [f.qf1, f.qf2, f.qf3, f.qf4, f.qf5].getD (q - 1) 0 := by
  interval_cases q <;> rfl

/-- Settles O31, by the five qualities for the factor and by the ends of the two ranges for the speed. -/
theorem qualitySpeed : Obligations.QualitySpeed := by
  intro f q hlow hhigh qf
  have speed : Machine.qualitySpeed f q = f.vSep * qf / 1024 :=
    congrArg (f.vSep * · / 1024) (qf_eq_getD f hlow hhigh)
  refine ⟨speed, fun hv hv' hq hq' => ?_⟩
  have least : 50 * 64 ≤ f.vSep * qf := Nat.mul_le_mul hv hq
  have most : f.vSep * qf ≤ 20000 * 1024 := Nat.mul_le_mul hv' hq'
  omega

/-! ### The limit of a junction (R58) -/

/-- With corner factors of at most 1024, a junction limit is at most the lower of the two limits beside it. -/
theorem junctionLimit_le_min (hcf : ∀ b, ProcessSet.cf f b ≤ 1024) (g g' : Segment) (v v' : Nat) :
    junctionLimit f g g' v v' ≤ min v v' := by
  unfold junctionLimit
  split
  · exact Nat.div_le_of_le_mul (by rw [Nat.mul_comm]; exact Nat.mul_le_mul_right _ (hcf _))
  · exact Nat.zero_le _

/-! ### The two passes (R60, R61) -/

/-- The entry speed that the backward pass gives the front of a run; past its end, the exit speed 0 of its last
segment. -/
def backEntry (a : Nat) : List PassItem → Nat
  | [] => 0
  | p :: rest => min p.before (min p.vMax (isqrt (backEntry a rest * backEntry a rest + 2 * a * p.length)))

theorem backwardPass_cons (a : Nat) (p : PassItem) (rest : List PassItem) :
    backwardPass a (p :: rest) = (backEntry a (p :: rest), backEntry a rest) :: backwardPass a rest := by
  induction rest generalizing p with
  | nil => rfl
  | cons q rest ih => rw [backwardPass, ih q]; rfl

/-- The speeds that the forward pass gives a run entered at `e`. -/
def speedsFrom (a e : Nat) (items : List PassItem) : List (Nat × Nat) :=
  forwardPass a e (items.zip (backwardPass a items))

theorem passSpeeds_eq (a : Nat) (items : List PassItem) : passSpeeds a items = speedsFrom a (backEntry a items) items := by
  cases items with
  | nil => rfl
  | cons p rest => rw [passSpeeds, speedsFrom, backwardPass_cons]

/-- R61: the exit speed of a segment entered at `e` with the items `rest` after it. -/
def forwardExit (a e : Nat) (p : PassItem) (rest : List PassItem) : Nat :=
  min (backEntry a rest) (isqrt (e * e + 2 * a * p.length))

theorem speedsFrom_cons (a e : Nat) (p : PassItem) (rest : List PassItem) :
    speedsFrom a e (p :: rest) = (e, forwardExit a e p rest) :: speedsFrom a (forwardExit a e p rest) rest := by
  rw [speedsFrom, backwardPass_cons]; rfl

/-! ### What R62 and R63 say of one segment -/

/-- A plan whose entry and exit speed lie within its limits, and which can be run from the one to the other at the
acceleration `a` in either sense over the segment's length. -/
structure Feasible (a : Nat) (g : Segment) (p : Plan) : Prop where
  entry_le_vMax : p.entry ≤ p.vMax
  exit_le_vMax : p.exit ≤ p.vMax
  entry_le_cruise : p.entry ≤ p.cruise
  exit_le_cruise : p.exit ≤ p.cruise
  cruise_le_vMax : p.cruise ≤ p.vMax
  falls : p.entry * p.entry ≤ p.exit * p.exit + 2 * a * g.len
  rises : p.exit * p.exit ≤ p.entry * p.entry + 2 * a * g.len

/-- R63: the peak of a segment that rises and falls at `a` is never below a speed from which both of its ends can be
reached. -/
theorem le_cruiseSpeed {len vMax entry exit v : Nat} (hmax : v ≤ vMax)
    (hsq : 2 * (v * v) ≤ 2 * a * len + entry * entry + exit * exit) : v ≤ cruiseSpeed a len vMax entry exit :=
  le_min hmax (le_isqrt.mpr (by omega))

theorem segmentPlan_feasible {p : PassItem} {x : Nat} (hlen : p.length = g.len) (hentry : e ≤ p.vMax)
    (hexit : x ≤ p.vMax) (hfall : e * e ≤ x * x + 2 * a * p.length) (hrise : x * x ≤ e * e + 2 * a * p.length) :
    Feasible a g (segmentPlan a p (e, x)) where
  entry_le_vMax := hentry
  exit_le_vMax := hexit
  entry_le_cruise := le_cruiseSpeed hentry (show 2 * (e * e) ≤ 2 * a * p.length + e * e + x * x by omega)
  exit_le_cruise := le_cruiseSpeed hexit (show 2 * (x * x) ≤ 2 * a * p.length + e * e + x * x by omega)
  cruise_le_vMax := min_le_left _ _
  falls := hlen ▸ hfall
  rises := hlen ▸ hrise

/-- The reason that R62 gives: the forward pass lowers an exit to a root that is not below the entry, so the entry can
still fall to it. -/
theorem forwardExit_falls {p : PassItem} {rest : List PassItem} (he : e ≤ backEntry a (p :: rest)) :
    e * e ≤ forwardExit a e p rest * forwardExit a e p rest + 2 * a * p.length := by
  obtain ⟨-, -, hroot⟩ : e ≤ p.before ∧ e ≤ p.vMax ∧ e ≤ isqrt _ := by simpa only [backEntry, le_min_iff] using he
  rcases min_choice (backEntry a rest) (isqrt (e * e + 2 * a * p.length)) with hkept | hlowered
  · rw [forwardExit, hkept]
    exact le_isqrt.mp hroot
  · have hnot_below : e ≤ forwardExit a e p rest := by
      rw [forwardExit, hlowered]
      exact le_isqrt.mpr (Nat.le_add_right _ _)
    exact (Nat.mul_self_le_mul_self hnot_below).trans (Nat.le_add_right _ _)

theorem forwardExit_rises (a e : Nat) (p : PassItem) (rest : List PassItem) :
    forwardExit a e p rest * forwardExit a e p rest ≤ e * e + 2 * a * p.length :=
  le_isqrt.mp (min_le_right _ _)

theorem forwardExit_le_backEntry (a e : Nat) (p : PassItem) (rest : List PassItem) :
    forwardExit a e p rest ≤ backEntry a rest := min_le_left _ _

/-! ### What R62 says of a run -/

/-- The plans of a run entered at a speed `e`: each is feasible and hands its exit speed, which the junction limit
bounds, to the next; a run that is at its end is at rest. -/
inductive PlannedFrom (f : ProcessSet) (a : Nat) : Nat → List Segment → List Plan → Prop
  | nil : PlannedFrom f a 0 [] []
  | cons {g : Segment} {p : Plan} {run : List Segment} {plans : List Plan} (feasible : Feasible a g p)
      (junction : ∀ g' ∈ run.head?, ∀ p' ∈ plans.head?, p.exit ≤ junctionLimit f g g' p.vMax p'.vMax)
      (tail : PlannedFrom f a p.exit run plans) : PlannedFrom f a p.entry (g :: run) (p :: plans)

theorem PlannedFrom.length_eq (h : PlannedFrom f a e run plans) : plans.length = run.length := by
  induction h with
  | nil => rfl
  | cons _ _ _ ih => exact congrArg (· + 1) ih

theorem PlannedFrom.entry_of_head {p : Plan} (h : PlannedFrom f a e run plans) (hp : plans[0]? = some p) :
    p.entry = e := by
  cases h with
  | nil => nomatch hp
  | cons => exact congrArg Plan.entry (Option.some.inj hp).symm

/-- A run that is at its end was left at rest: the exit of the last segment is 0 (R52). -/
theorem PlannedFrom.at_rest_of_nil (h : PlannedFrom f a e [] plans) : e = 0 := by cases h; rfl

/-- R62 at each index of a planned run. -/
theorem PlannedFrom.at_index {i : Nat} {p : Plan} (h : PlannedFrom f a e run plans) (hp : plans[i]? = some p)
    (hg : run[i]? = some g) :
    Feasible a g p ∧ (i + 1 = run.length → p.exit = 0)
      ∧ ∀ (p' : Plan) (g' : Segment), plans[i + 1]? = some p' → run[i + 1]? = some g' →
        p.exit = p'.entry ∧ p.exit ≤ junctionLimit f g g' p.vMax p'.vMax := by
  induction h generalizing i with
  | nil => nomatch hp
  | @cons g₀ p₀ run plans feasible junction tail ih =>
    cases i with
    | zero =>
      obtain rfl : g₀ = g := by simpa using hg
      obtain rfl : p₀ = p := by simpa using hp
      refine ⟨feasible, fun hlast => ?_, fun p' g' hp' hg' => ?_⟩
      · obtain rfl : run = [] := by simpa using hlast
        exact tail.at_rest_of_nil
      · rw [List.getElem?_cons_succ] at hp' hg'
        exact ⟨(tail.entry_of_head hp').symm,
          junction g' (by rwa [List.head?_eq_getElem?]) p' (by rwa [List.head?_eq_getElem?])⟩
    | succ i => simpa using ih hp hg

/-! ### The planner gives such plans -/

/-- The plans of the rest of a run, entered at `e` after the segment `prev`. -/
def plansFrom (f : ProcessSet) (m : MachineSetup) (vq e : Nat) (prev : Option (Segment × Nat)) (run : List Segment) :
    List Plan :=
  let items := passItems f m vq prev run
  (items.zip (speedsFrom m.accel e items)).map fun i => segmentPlan m.accel i.1 i.2

/-- The plans of a run start from rest: the junction limit before its first segment is 0 (R52). -/
theorem planRun_eq (f : ProcessSet) (m : MachineSetup) (q : Nat) (run : List Segment) :
    planRun f m q run = plansFrom f m (Machine.qualitySpeed f q) 0 none run := by
  have from_rest : backEntry m.accel (passItems f m (Machine.qualitySpeed f q) none run) = 0 := by
    cases run with
    | nil => rfl
    | cons g run => exact Nat.zero_min _
  rw [planRun, passSpeeds_eq, from_rest]
  rfl

/-- The item of a segment: its length, its limit and the junction limit before it. -/
def itemOf (f : ProcessSet) (m : MachineSetup) (vq : Nat) (prev : Option (Segment × Nat)) (g : Segment) : PassItem where
  length := g.len
  vMax := segmentLimit f m vq g
  before := match prev with
    | none => 0
    | some (p, vp) => junctionLimit f p g vp (segmentLimit f m vq g)

theorem passItems_cons (f : ProcessSet) (m : MachineSetup) (vq : Nat) (prev : Option (Segment × Nat)) (g : Segment)
    (run : List Segment) :
    passItems f m vq prev (g :: run)
      = itemOf f m vq prev g :: passItems f m vq (some (g, segmentLimit f m vq g)) run := by
  cases prev <;> rfl

theorem plansFrom_cons (f : ProcessSet) (m : MachineSetup) (vq e : Nat) (prev : Option (Segment × Nat)) (g : Segment)
    (run : List Segment) :
    let p := itemOf f m vq prev g
    let x := forwardExit m.accel e p (passItems f m vq (some (g, p.vMax)) run)
    plansFrom f m vq e prev (g :: run) = segmentPlan m.accel p (e, x) :: plansFrom f m vq x (some (g, p.vMax)) run := by
  rw [plansFrom, passItems_cons, speedsFrom_cons]
  rfl

/-- The backward pass leaves a run that follows a segment with an entry speed within the junction limit between the
two. -/
theorem backEntry_le_junctionLimit (a vp : Nat) (prev g : Segment) (run : List Segment) :
    backEntry a (passItems f m vq (some (prev, vp)) (g :: run)) ≤ junctionLimit f prev g vp (segmentLimit f m vq g) := by
  rw [passItems_cons]
  exact min_le_left _ _

/-- A run that follows a segment of limit `vp` is entered within that limit. -/
theorem backEntry_le_limit (hcf : ∀ b, ProcessSet.cf f b ≤ 1024) (a vp : Nat) (prev : Segment) (run : List Segment) :
    backEntry a (passItems f m vq (some (prev, vp)) run) ≤ vp := by
  cases run with
  | nil => exact Nat.zero_le _
  | cons g run =>
    exact (backEntry_le_junctionLimit a vp prev g run).trans
      ((junctionLimit_le_min hcf prev g vp _).trans (min_le_left _ _))

/-- The two passes over a run entered at most at the speed that the backward pass allows. -/
theorem plannedFrom_plansFrom (hcf : ∀ b, ProcessSet.cf f b ≤ 1024) (vq : Nat) (run : List Segment) (e : Nat)
    (prev : Option (Segment × Nat)) (he : e ≤ backEntry m.accel (passItems f m vq prev run)) :
    PlannedFrom f m.accel e run (plansFrom f m vq e prev run) := by
  induction run generalizing e prev with
  | nil =>
    obtain rfl : e = 0 := Nat.le_zero.mp he
    exact .nil
  | cons g run ih =>
    rw [passItems_cons] at he
    rw [plansFrom_cons]
    have hexit := forwardExit_le_backEntry m.accel e (itemOf f m vq prev g)
      (passItems f m vq (some (g, segmentLimit f m vq g)) run)
    have hentry : e ≤ segmentLimit f m vq g := he.trans ((min_le_right _ _).trans (min_le_left _ _))
    refine .cons (p := segmentPlan m.accel (itemOf f m vq prev g) (e, _)) ?_ ?_ (ih _ _ hexit)
    · exact segmentPlan_feasible rfl hentry (hexit.trans (backEntry_le_limit hcf _ _ g run)) (forwardExit_falls he)
        (forwardExit_rises _ _ _ _)
    · intro g' hg' p' hp'
      cases run with
      | nil => nomatch hg'
      | cons g'' run =>
        obtain rfl : g'' = g' := by simpa using hg'
        rw [plansFrom_cons] at hp'
        obtain rfl := Option.some.inj hp'
        exact hexit.trans (backEntry_le_junctionLimit _ _ g g'' run)

/-- Settles O32: the two passes plan a run from rest as `PlannedFrom` says, which holds R62 at each index. -/
theorem plannedSpeeds : Obligations.PlannedSpeeds := by
  intro f m q run hcf plans
  have planned : PlannedFrom f m.accel 0 run plans := by
    rw [show plans = _ from planRun_eq f m q run]
    exact plannedFrom_plansFrom hcf _ run 0 none (Nat.zero_le _)
  refine ⟨planned.length_eq, fun i p g hp hg => ?_⟩
  obtain ⟨feasible, last, junction⟩ := planned.at_index hp hg
  exact ⟨feasible.entry_le_vMax, feasible.exit_le_vMax, feasible.entry_le_cruise, feasible.exit_le_cruise,
    feasible.cruise_le_vMax, fun hfirst => planned.entry_of_head (hfirst ▸ hp), last, feasible.falls, feasible.rises,
    junction⟩

end Sys2Proof.Proofs
end

section
/-! WHAT EVERY STEP KEEPS. `Keeps` holds of two states where the second has kept every law that the first meets. It is
reflexive and transitive, so that an operation keeps the laws where each of its updates does. One lemma says so for each
update of a part of the state, and one for each operation that ends a cycle, takes a contour, takes a hold or a fault. -/

namespace Sys2Proof.Proofs

open Sys2Proof.Machine

/-- What is known of a command and of the state that it finds, where a law is kept under a premise. -/
structure Scope where
  /-- The state that the command finds meets FaultLaw. -/
  lawful : Prop
  /-- The command can occur: its operands fit their bytes. -/
  fits : Prop
  /-- The command may home an axis. -/
  homes : Prop
  /-- The command may end the machine state FAULT. -/
  leaves : Prop
  /-- The command may change a port. -/
  serves : Prop

/-- `t` has kept what `s` meets. -/
structure Keeps (k : Scope) (s t : State) : Prop where
  pending : t.pending = s.pending
  ports : ¬ k.serves → t.ports = s.ports
  homed : ¬ k.homes → ∀ a, (t.axes.get a).homed = true → (s.axes.get a).homed = true
  override : OverrideLaw s → OverrideLaw t
  store : StoreLaw s → StoreLaw t
  sequence : SequenceLaw s → SequenceLaw t
  loading : LoadingLaw s → LoadingLaw t
  cycle : CycleLaw s → CycleLaw t
  runList : CycleLaw s → RunListLaw s → RunListLaw t
  valves : ValvesLaw s → ValvesLaw t
  record : k.fits → RecordLaw s → RecordLaw t
  fault : k.lawful → FaultLaw s → FaultLaw t ∧ (¬ k.leaves → s.cyc.mstate = .fault → t.cyc.mstate = .fault)

/-- Where FAULT holds what FaultLaw says, the machine state is another one. -/
def Awake (k : Scope) (s : State) : Prop := k.lawful → s.cyc.mstate ≠ .fault

variable {k : Scope} {s t u : State}

theorem Keeps.refl (k : Scope) (s : State) : Keeps k s s :=
  ⟨rfl, fun _ => rfl, fun _ _ => id, id, id, id, id, id, fun _ => id, id, fun _ => id, fun _ h => ⟨h, fun _ => id⟩⟩

theorem Keeps.trans (h : Keeps k s t) (g : Keeps k t u) : Keeps k s u where
  pending := g.pending.trans h.pending
  ports n := (g.ports n).trans (h.ports n)
  homed n a := h.homed n a ∘ g.homed n a
  override := g.override ∘ h.override
  store := g.store ∘ h.store
  sequence := g.sequence ∘ h.sequence
  loading := g.loading ∘ h.loading
  cycle := g.cycle ∘ h.cycle
  runList hc := g.runList (h.cycle hc) ∘ h.runList hc
  valves := g.valves ∘ h.valves
  record hf := g.record hf ∘ h.record hf
  fault hl hs :=
    ⟨(g.fault hl (h.fault hl hs).1).1, fun n => (g.fault hl (h.fault hl hs).1).2 n ∘ (h.fault hl hs).2 n⟩

theorem Keeps.ite {c : Prop} [Decidable c] {t u : State} (ht : c → Keeps k s t) (hu : ¬ c → Keeps k s u) :
    Keeps k s (if c then t else u) := by
  split
  · next h => exact ht h
  · next h => exact hu h

theorem Keeps.of_eq (h : t = s) : Keeps k s t := h ▸ Keeps.refl k s

theorem Awake.of_mstate {m : MachineState} (h : s.cyc.mstate = m) (hm : m ≠ .fault) : Awake k s := fun _ => h ▸ hm

theorem Awake.congr (h : Awake k s) (e : t.cyc.mstate = s.cyc.mstate) : Awake k t := fun hl => e ▸ h hl

/-! ### What the laws say of a state at hand -/

theorem inCycle_of_active (h : CycleLaw s) (ha : s.cyc.active ≠ none) : s.cyc.mstate.inCycle = true := by
  obtain ⟨hphase, hactive, -⟩ := h
  rw [← hphase, Option.isSome_iff_ne_none]
  exact (hactive ha).1

theorem inCycle_of_phase (h : CycleLaw s) (hp : s.cyc.phase ≠ none) : s.cyc.mstate.inCycle = true := by
  rwa [← h.1, Option.isSome_iff_ne_none]

theorem active_none_of_outside (h : CycleLaw s) (hm : s.cyc.mstate.inCycle = false) : s.cyc.active = none := by
  by_contra ha
  simp [inCycle_of_active h ha] at hm

theorem active_none_of_wait (h : CycleLaw s) (hp : s.cyc.phase = some .wait) : s.cyc.active = none := by
  by_contra ha
  exact (h.2.1 ha).2 hp

theorem abort_false_of_outside (h : CycleLaw s) (hm : s.cyc.mstate.inCycle = false) : s.cyc.abortPending = false := by
  obtain ⟨-, -, -, -, habort⟩ := h
  by_contra ha
  simp [habort (by simpa using ha)] at hm

theorem homing_none_of_ne (h : CycleLaw s) (hm : s.cyc.mstate ≠ .homing) : s.homing.axis = none := by
  obtain ⟨-, -, -, hhoming, -⟩ := h
  by_contra ha
  exact hm (hhoming ha)

/-- No axis homes in a cycle. -/
theorem homing_none_of_inCycle (h : CycleLaw s) (hm : s.cyc.mstate.inCycle = true) : s.homing.axis = none :=
  homing_none_of_ne h fun e => by simp [e, MachineState.inCycle] at hm

theorem homing_none_of_active (h : CycleLaw s) (ha : s.cyc.active ≠ none) : s.homing.axis = none :=
  homing_none_of_inCycle h (inCycle_of_active h ha)

theorem active_ne_none_of_contour {r : Contour} (h : s.activeContour = some r) : s.cyc.active ≠ none := by
  intro e
  simp [State.activeContour, e] at h

/-! ### What moves in FAULT: nothing -/

theorem awake_of_zmotion (hl : k.lawful → FaultLaw s) (h : s.zmotion ≠ .rest) : Awake k s := fun hk hm => by
  obtain ⟨-, -, -, -, -, -, -, -, -, hz, -⟩ := hl hk hm
  exact h hz

theorem awake_of_cursor (hl : k.lawful → FaultLaw s) (h : s.path.cursor ≠ none) : Awake k s := fun hk hm => by
  obtain ⟨-, -, -, -, -, -, hc, -⟩ := hl hk hm
  exact h hc

theorem awake_of_motion (hl : k.lawful → FaultLaw s) (h : s.path.motion ≠ .rest) : Awake k s := fun hk hm => by
  obtain ⟨-, -, -, -, -, -, -, -, hp, -⟩ := hl hk hm
  exact h hp

theorem awake_of_homing (hl : k.lawful → FaultLaw s) (h : s.homing.axis ≠ none) : Awake k s := fun hk hm => by
  obtain ⟨-, -, -, -, -, -, -, -, -, -, hh, -⟩ := hl hk hm
  exact h hh

theorem awake_of_jet (hl : k.lawful → FaultLaw s) (h : ¬ s.jet.AtRest) : Awake k s := fun hk hm => by
  obtain ⟨-, -, -, -, -, -, -, -, -, -, -, hj⟩ := hl hk hm
  exact h hj

theorem awake_of_phase (hl : k.lawful → FaultLaw s) (h : s.cyc.phase ≠ none) : Awake k s := fun hk hm =>
  h (hl hk hm).1

/-! ### Updates that no law reads -/

theorem keeps_onLines (f : Lines → Lines) : Keeps k s (s.onLines f) :=
  ⟨rfl, fun _ => rfl, fun _ _ => id, id, id, id, id, id, fun _ => id, id, fun _ => id, fun _ h => ⟨h, fun _ => id⟩⟩

theorem keeps_onSetups (f : SetupStore → SetupStore) : Keeps k s (s.onSetups f) :=
  ⟨rfl, fun _ => rfl, fun _ _ => id, id, id, id, id, id, fun _ => id, id, fun _ => id, fun _ h => ⟨h, fun _ => id⟩⟩

theorem keeps_onJog (f : Jog → Jog) : Keeps k s (s.onJog f) :=
  ⟨rfl, fun _ => rfl, fun _ _ => id, id, id, id, id, id, fun _ => id, id, fun _ => id, fun _ h => ⟨h, fun _ => id⟩⟩

/-! ### One part of the state -/

theorem keeps_onPorts (hk : k.serves) (f : Ports → Ports) (h : (f s.ports).keyMode = s.ports.keyMode) :
    Keeps k s (s.onPorts f) where
  pending := rfl
  ports n := absurd hk n
  homed _ _ := id
  override ho := by simpa [OverrideLaw, h] using ho
  store := id
  sequence := id
  loading := id
  cycle := id
  runList _ := id
  valves := id
  record _ := id
  fault _ hs := ⟨hs, fun _ => id⟩

theorem keeps_onPort (hk : k.serves) (p : Port) (f : PortState → PortState) : Keeps k s (s.onPort p f) :=
  keeps_onPorts hk _ (by cases p <;> rfl)

theorem keeps_onAxes (f : PerAxis Channel → PerAxis Channel)
    (h : ∀ a, ((f s.axes).get a).homed = true → (s.axes.get a).homed = true) : Keeps k s (s.onAxes f) :=
  ⟨rfl, fun _ => rfl, fun _ => h, id, id, id, id, id, fun _ => id, id, fun _ => id, fun _ h => ⟨h, fun _ => id⟩⟩

theorem keeps_onAxis (a : Axis) (f : Channel → Channel) (h : (f (s.chan a)).homed = true → (s.chan a).homed = true) :
    Keeps k s (s.onAxis a f) :=
  keeps_onAxes _ fun b hb => by
    by_cases e : b = a
    · subst e
      refine h ?_
      rwa [PerAxis.get_set_same] at hb
    · rwa [PerAxis.get_set_other _ _ _ _ e] at hb

theorem keeps_onHoming (f : Homing → Homing)
    (h : (f s.homing).axis ≠ none → s.homing.axis ≠ none ∨ s.cyc.mstate = .homing) : Keeps k s (s.onHoming f) where
  pending := rfl
  ports _ := rfl
  homed _ _ := id
  override := id
  store := id
  sequence := id
  loading := id
  cycle := fun ⟨hphase, hactive, hhold, hhoming, habort⟩ =>
    ⟨hphase, hactive, hhold, fun ha => (h ha).elim hhoming id, habort⟩
  runList _ := id
  valves := id
  record _ := id
  fault _ hs := by
    refine ⟨fun hm => ?_, fun _ => id⟩
    obtain ⟨h1, h2, h3, h4, h5, h6, h7, h8, h9, h10, hh, hj⟩ := hs hm
    refine ⟨h1, h2, h3, h4, h5, h6, h7, h8, h9, h10, ?_, hj⟩
    by_contra ha
    rcases h ha with he | he
    · exact he hh
    · exact absurd (he.symm.trans hm) (by decide)

theorem keeps_setZ (z : ZMotion) (h : Awake k s ∨ z = .rest) : Keeps k s (s.setZ z) where
  pending := rfl
  ports _ := rfl
  homed _ _ := id
  override := id
  store := id
  sequence := id
  loading := id
  cycle := id
  runList _ := id
  valves := id
  record _ := id
  fault hl hs := by
    refine ⟨fun hm => ?_, fun _ => id⟩
    obtain ⟨h1, h2, h3, h4, h5, h6, h7, h8, h9, -, hh, hj⟩ := hs hm
    exact ⟨h1, h2, h3, h4, h5, h6, h7, h8, h9, h.elim (fun ha => absurd hm (ha hl)) id, hh, hj⟩

theorem keeps_onPath (f : ProfileGenerator → ProfileGenerator) (ho : (f s.path).override = s.path.override)
    (h : Awake k s ∨ (f s.path).cursor = none ∧ (f s.path).speedSq = 0 ∧ (f s.path).motion = .rest) :
    Keeps k s (s.onPath f) where
  pending := rfl
  ports _ := rfl
  homed _ _ := id
  override := fun ⟨hlow, hhigh, heff⟩ => ⟨hlow, hhigh, ho.trans heff⟩
  store := id
  sequence := id
  loading := id
  cycle := id
  runList _ := id
  valves := id
  record _ := id
  fault hl hs := by
    refine ⟨fun hm => ?_, fun _ => id⟩
    obtain ⟨h1, h2, h3, h4, h5, h6, -, -, -, hz, hh, hj⟩ := hs hm
    obtain ha | ⟨hc, hv, hp⟩ := h
    · exact absurd hm (ha hl)
    · exact ⟨h1, h2, h3, h4, h5, h6, hc, hv, hp, hz, hh, hj⟩

/-- The count of further alerts and the latest code agree (R155). -/
def Counted (r : AlertRecord) : Prop := r.further ≤ 255 ∧ (r.further = 0 ↔ r.latest = none)

theorem keeps_setAlert (v : Option AlertRecord) (h : (∀ r ∈ s.alert, Counted r) → ∀ r ∈ v, Counted r) :
    Keeps k s (s.setAlert v) where
  pending := rfl
  ports _ := rfl
  homed _ _ := id
  override := id
  store := id
  sequence := id
  loading := id
  cycle := id
  runList _ := id
  valves := id
  record _ := fun ⟨hr, ht⟩ => ⟨h hr, ht⟩
  fault _ hs := ⟨hs, fun _ => id⟩

/-- R156: a further alert counts and is the latest. -/
theorem counted_recordAlert (code : AlertCode) (d : AlertDetail) (x : AlertContext) (r : Option AlertRecord) :
    Counted (recordAlert code d x r) := by
  cases r with
  | none => exact ⟨Nat.zero_le _, by simp [recordAlert]⟩
  | some r => exact ⟨Nat.min_le_left _ _, by simp [recordAlert]⟩

theorem keeps_raiseAlert (code : AlertCode) (d : AlertDetail) (x : AlertContext) :
    Keeps k s (raiseAlert code d x s) :=
  keeps_setAlert _ fun _ r hr => by
    obtain rfl := Option.some.inj hr
    exact counted_recordAlert code d x _

theorem keeps_raiseHoldAlert (cause : HoldCause) (d : AlertDetail) (x : AlertContext) :
    Keeps k s (raiseHoldAlert cause d x s) := by
  unfold raiseHoldAlert
  split
  · exact .refl k s
  · exact keeps_raiseAlert _ _ _

/-! ### The Jet Controller -/

theorem valvesAllowed_iff (c : CycleController) :
    valvesAllowed c = true ↔ (c.mstate = .running ∨ c.mstate = .resuming) ∧ (c.phase = some .pierce ∨ c.phase = some .cut) := by
  simp [valvesAllowed]

theorem awake_of_valvesAllowed (h : valvesAllowed s.cyc = true) : Awake k s := fun _ hm => by
  simp [valvesAllowed, hm] at h

theorem keeps_onJet (f : Jet → Jet)
    (hv : (f s.jet).state ≠ .closed → s.jet.state ≠ .closed ∨ valvesAllowed s.cyc = true)
    (hr : Awake k s ∨ (s.jet.AtRest → (f s.jet).AtRest))
    (ht : k.fits → s.jet.jetTime ≤ Config.maxJetTime → (f s.jet).jetTime ≤ Config.maxJetTime)
    (hn : k.fits → s.jet.pierceCount ≤ Config.maxPierceCount → (f s.jet).pierceCount ≤ Config.maxPierceCount) :
    Keeps k s (s.onJet f) where
  pending := rfl
  ports _ := rfl
  homed _ _ := id
  override := id
  store := id
  sequence := id
  loading := id
  cycle := id
  runList _ := id
  valves hs hopen := (hv hopen).elim hs (valvesAllowed_iff _).mp
  record hf := fun ⟨ha, hjt, hpc⟩ => ⟨ha, ht hf hjt, hn hf hpc⟩
  fault hl hs := by
    refine ⟨fun hm => ?_, fun _ => id⟩
    obtain ⟨h1, h2, h3, h4, h5, h6, h7, h8, h9, h10, hh, hj⟩ := hs hm
    exact ⟨h1, h2, h3, h4, h5, h6, h7, h8, h9, h10, hh, hr.elim (fun ha => absurd hm (ha hl)) (fun hr => hr hj)⟩

/-- Timers and steps of a jet that stays in its state. -/
theorem keeps_jetTimers (ha : Awake k s) (f : Jet → Jet) (hs : (f s.jet).state = s.jet.state)
    (ht : (f s.jet).jetTime = s.jet.jetTime) (hn : (f s.jet).pierceCount = s.jet.pierceCount) : Keeps k s (s.onJet f) :=
  keeps_onJet f (fun h => .inl (hs ▸ h)) (.inl ha) (fun _ h => ht ▸ h) (fun _ h => hn ▸ h)

/-- A jet state entered where the valves may be open (R92). -/
theorem keeps_jetState (hv : valvesAllowed s.cyc = true) (f : Jet → Jet)
    (ht : (f s.jet).jetTime = s.jet.jetTime) (hn : (f s.jet).pierceCount = s.jet.pierceCount) : Keeps k s (s.onJet f) :=
  keeps_onJet f (fun _ => .inr hv) (.inl (awake_of_valvesAllowed hv)) (fun _ h => ht ▸ h) (fun _ h => hn ▸ h)

theorem keeps_reformDemand (s : State) : Keeps k s (reformDemand s) := by
  rw [reformDemand_eq]
  exact keeps_onJet (fun j => { j with demand := demandOf s, bandIn := bandAfter (demandOf s) s }) .inl (.inr id)
    (fun _ => id) (fun _ => id)

theorem keeps_closeJet (s : State) : Keeps k s (closeJet s) := by
  rw [closeJet_eq]
  exact keeps_onJet (fun j => { j.shut (bandAfter (closedDemand s) s) with demand := closedDemand s })
    (fun h => absurd rfl h) (.inr fun _ => ⟨rfl, rfl, rfl, rfl, rfl, rfl, rfl, rfl, rfl⟩) (fun _ => id) (fun _ => id)

/-! ### The Cycle Controller's marks -/

/-- An update of the Cycle Controller that leaves the machine state, the phase, the contour, a waiting ABORT and the
requested override, and the phase that a hold record names; in FAULT no mark appears. -/
theorem keeps_onCyc (f : CycleController → CycleController)
    (hsame : (f s.cyc).mstate = s.cyc.mstate ∧ (f s.cyc).phase = s.cyc.phase ∧ (f s.cyc).active = s.cyc.active
      ∧ (f s.cyc).abortPending = s.cyc.abortPending ∧ (f s.cyc).reqOverride = s.cyc.reqOverride)
    (hhold : CycleLaw s → ∀ h, (f s.cyc).hold = some h →
      s.cyc.phase = some h.phase ∨ ∃ g, s.cyc.hold = some g ∧ g.phase = h.phase)
    (hmarks : Awake k s ∨ (s.cyc.hold = none → (f s.cyc).hold = none)
      ∧ (s.cyc.deferredHold = false → (f s.cyc).deferredHold = false)
      ∧ (s.cyc.suspension = false → (f s.cyc).suspension = false)) :
    Keeps k s (s.onCyc f) := by
  obtain ⟨hm, hp, ha, hb, ho⟩ := hsame
  constructor
  case pending => rfl
  case ports => exact fun _ => rfl
  case homed => exact fun _ _ => id
  case override => simp [OverrideLaw, ho]
  case store => exact id
  case sequence => exact id
  case loading => exact id
  case cycle =>
    intro hs
    have held := hhold hs
    obtain ⟨hphase, hactive, hholds, hhoming, habort⟩ := hs
    refine ⟨by simpa [hm, hp] using hphase, by simpa [ha, hp] using hactive, fun hst h hh => ?_,
      by simpa [hm] using hhoming, by simpa [hm, hb] using habort⟩
    rw [State.onCyc_cyc, hm] at hst
    rw [State.onCyc_cyc, hp]
    obtain hnow | ⟨g, hg, hgp⟩ := held h hh
    · exact hnow
    · rw [hholds hst g hg, hgp]
  case runList =>
    intro _ ⟨hnodup, hsealed, hactive⟩
    exact ⟨hnodup, hsealed, fun c => by rw [State.onCyc_cyc, ha]; exact hactive c⟩
  case valves => simp [ValvesLaw, hm, hp]
  case record => exact fun _ => id
  case fault =>
    intro hl hs
    refine ⟨fun hf => ?_, fun _ => by simp [hm]⟩
    rw [State.onCyc_cyc, hm] at hf
    obtain ⟨h1, h2, h3, h4, h5, h6, h7, h8, h9, h10, hh, hj⟩ := hs hf
    obtain haw | ⟨hhold', hdef, hsusp⟩ := hmarks
    · exact absurd hf (haw hl)
    · exact ⟨hp.trans h1, hhold' h2, ha.trans h3, hdef h4, hb.trans h5, hsusp h6, h7, h8, h9, h10, hh, hj⟩

/-- An update of the Cycle Controller that also leaves the hold record. -/
theorem keeps_cycMarks (f : CycleController → CycleController)
    (hsame : (f s.cyc).mstate = s.cyc.mstate ∧ (f s.cyc).phase = s.cyc.phase ∧ (f s.cyc).active = s.cyc.active
      ∧ (f s.cyc).abortPending = s.cyc.abortPending ∧ (f s.cyc).reqOverride = s.cyc.reqOverride)
    (hhold : (f s.cyc).hold = s.cyc.hold)
    (hmarks : Awake k s ∨ (s.cyc.deferredHold = false → (f s.cyc).deferredHold = false)
      ∧ (s.cyc.suspension = false → (f s.cyc).suspension = false)) :
    Keeps k s (s.onCyc f) :=
  keeps_onCyc f hsame (fun _ h hh => .inr ⟨h, hhold ▸ hh, rfl⟩) (hmarks.imp_right fun h => ⟨fun e => hhold.trans e, h⟩)

theorem keeps_testWear (s : State) : Keeps k s (testWear s) := by
  have marks (t n : Bool) : Keeps k s (s.onJet fun j => { j with wearJetTime := t, wearPierceCount := n }) :=
    keeps_onJet _ .inl (.inr id) (fun _ => id) (fun _ => id)
  have raised (a : Accumulator) (u : State) : Keeps k u (raiseWear a u) :=
    (keeps_raiseAlert _ _ _).trans (keeps_cycMarks _ ⟨rfl, rfl, rfl, rfl, rfl⟩ rfl (.inr ⟨id, id⟩))
  unfold testWear
  exact ((marks _ _).trans (.ite (fun _ => raised _ _) fun _ => .refl _ _)).trans
    (.ite (fun _ => raised _ _) fun _ => .refl _ _)

/-! ### Machine state and phase -/

/-- A machine state other than FAULT is entered, by a command that may leave FAULT or in another state, with a phase
that belongs to it. -/
theorem keeps_enterState (m : MachineState) (ph : Option Phase) (hm : m ≠ .fault) (ha : Awake k s ∨ k.leaves)
    (hc : CycleLaw s → CycleLaw { s with cyc := { s.cyc with mstate := m, phase := ph } }) :
    Keeps k s (enterState m ph s) := by
  have entered (j : Jet) (hj : j.jetTime = s.jet.jetTime) (hn : j.pierceCount = s.jet.pierceCount)
      (hv : valvesAllowed { s.cyc with mstate := m, phase := ph } = true ∨ j.state = .closed) :
      Keeps k s { s with cyc := { s.cyc with mstate := m, phase := ph }, jet := j } := by
    refine ⟨rfl, fun _ => rfl, fun _ _ => id, id, id, id, id, hc, fun _ => id, fun _ hopen => ?_, fun _ => ?_, fun hl _ =>
      ⟨fun hf => absurd hf hm, fun hn hf => ?_⟩⟩
    · exact hv.elim (valvesAllowed_iff _).mp (absurd · hopen)
    · rintro ⟨hr, hjt, hpc⟩
      exact ⟨hr, hj ▸ hjt, hn ▸ hpc⟩
    · exact ha.elim (fun haw => absurd hf (haw hl)) (absurd · hn)
  cases hv : valvesAllowed { s.cyc with mstate := m, phase := ph } with
  | false =>
    rw [enterState_closed _ _ _ hv, closeJet_eq]
    exact entered _ rfl rfl (.inr rfl)
  | true =>
    rw [enterState_open _ _ _ hv, reformDemand_eq]
    exact entered _ rfl rfl (.inl hv)

/-- A phase of RUNNING is entered; WAIT with no contour. -/
theorem keeps_enterRunning (ph : Phase) (ha : Awake k s) (hh : CycleLaw s → s.homing.axis = none)
    (hw : ph = .wait → CycleLaw s → s.cyc.active = none) : Keeps k s (enterState .running (some ph) s) :=
  keeps_enterState _ _ (by decide) (.inl ha) fun hs =>
    ⟨rfl, fun hact => ⟨by simp, fun e => hact (hw (Option.some.inj e) hs)⟩, by simp, fun e => absurd (hh hs) e, fun _ => rfl⟩

/-- A machine state without a phase is entered with no contour and no ABORT waiting. -/
theorem keeps_enterNoPhase (m : MachineState) (hm : m ≠ .fault) (hn : m.inCycle = false) (ha : Awake k s ∨ k.leaves)
    (hs : s.cyc.mstate.inCycle = false) (hh : CycleLaw s → m ≠ .homing → s.homing.axis = none) :
    Keeps k s (enterState m none s) :=
  keeps_enterState _ _ hm ha fun hc =>
    ⟨hn.symm, fun hact => absurd (active_none_of_outside hc hs) hact,
      by rintro (rfl | rfl | rfl) <;> simp [MachineState.inCycle] at hn,
      fun e => by_contra fun hne => e (hh hc hne),
      fun (e : s.cyc.abortPending = true) => absurd (e.symm.trans (abort_false_of_outside hc hs)) (by decide)⟩

@[simp] theorem enterState_mstate (m : MachineState) (ph : Option Phase) (s : State) :
    (enterState m ph s).cyc = { s.cyc with mstate := m, phase := ph } := by
  cases hv : valvesAllowed { s.cyc with mstate := m, phase := ph } with
  | false => rw [enterState_closed _ _ _ hv, closeJet_cyc]
  | true => rw [enterState_open _ _ _ hv, reformDemand_eq]

/-! ### The Program Store -/

theorem keeps_onProg (f : ProgramStore → ProgramStore) (hstore : StoreLaw s → StoreLaw (s.onProg f))
    (hseq : SequenceLaw s → SequenceLaw (s.onProg f)) (hload : LoadingLaw s → LoadingLaw (s.onProg f))
    (hrun : CycleLaw s → RunListLaw s → RunListLaw (s.onProg f)) : Keeps k s (s.onProg f) :=
  ⟨rfl, fun _ => rfl, fun _ _ => id, id, hstore, hseq, hload, id, hrun, id, fun _ => id, fun _ h => ⟨h, fun _ => id⟩⟩

/-- Fewer segments in the same order, or segments changed but for their numbers. -/
theorem keeps_segments (f : List Segment → List Segment)
    (h : ((f s.prog.segments).map (·.seq)).Sublist (s.prog.segments.map (·.seq))) :
    Keeps k s (s.onProg fun p => { p with segments := f p.segments }) := by
  refine keeps_onProg _ (fun hs => ?_) (fun ⟨hpair, hrange, hnext⟩ => ?_) id fun _ => id
  · exact le_trans (by simpa using h.length_le) hs
  · refine ⟨hpair.sublist h, fun g hg => ?_, hnext⟩
    obtain ⟨g', hg', e⟩ := List.mem_map.mp (h.mem (List.mem_map.mpr ⟨g, hg, rfl⟩))
    exact e ▸ hrange g' hg'

theorem keeps_dropSegments (gone : Segment → Bool) : Keeps k s (s.dropSegments gone) :=
  keeps_segments (fun gs => gs.filter fun g => !gone g) (List.filter_sublist.map _)

theorem keeps_modSegment (n : Nat) (f : Segment → Segment) (h : ∀ g, (f g).seq = g.seq) :
    Keeps k s (s.modSegment n f) := by
  refine keeps_segments (fun gs => gs.map fun g => if g.seq == n then f g else g) ?_
  have same (gs : List Segment) : (gs.map fun g => if g.seq == n then f g else g).map (·.seq) = gs.map (·.seq) := by
    rw [List.map_map]
    refine List.map_congr_left fun g _ => ?_
    dsimp only [Function.comp]
    split
    · exact h g
    · rfl
  rw [same]

/-- The status of each contour after one record has changed. -/
theorem statusOf_setContour (c d : Fin Config.contours) (r : Option Contour) :
    (s.setContour c r).statusOf d = if d = c then r.map (·.status) else s.statusOf d := by
  unfold State.statusOf
  split
  · next h => rw [h, State.setContour_same]
  · next h => rw [State.setContour_other _ _ _ _ h]

theorem statusOf_modContour (c d : Fin Config.contours) (f : Contour → Contour) :
    (s.modContour c f).statusOf d = if d = c then (s.contour? c).map (fun r => (f r).status) else s.statusOf d := by
  unfold State.statusOf
  split
  · next h => rw [h, State.modContour_same, Option.map_map]; rfl
  · next h => rw [State.modContour_other _ _ _ _ h]

@[simp] theorem setContour_segments (c : Fin Config.contours) (r : Option Contour) :
    (s.setContour c r).prog.segments = s.prog.segments := rfl

/-- A record that keeps its status. -/
theorem keeps_modContour (c : Fin Config.contours) (f : Contour → Contour) (h : ∀ r, (f r).status = r.status) :
    Keeps k s (s.modContour c f) := by
  have same (d) : (s.modContour c f).statusOf d = s.statusOf d := by
    rw [statusOf_modContour]
    split
    · next e => simp [e, State.statusOf, h]
    · rfl
  cases hc : s.contour? c with
  | none => exact .of_eq (by simp [State.modContour, hc])
  | some r =>
    have stored : s.modContour c f = s.setContour c (some (f r)) := by simp [State.modContour, hc]
    rw [stored] at same ⊢
    exact keeps_onProg _ id id (fun hs a b ha hb => hs a b (same a ▸ ha) (same b ▸ hb))
      fun _ ⟨hnodup, hsealed, hactive⟩ =>
        ⟨hnodup, fun d => (hsealed d).trans (by rw [← same d]; rfl), fun d => (hactive d).trans (by rw [← same d]; rfl)⟩

theorem keeps_modActive (f : Contour → Contour) (h : ∀ r, (f r).status = r.status) : Keeps k s (s.modActive f) := by
  unfold State.modActive
  split
  · exact .refl k s
  · exact keeps_modContour _ _ h

/-! ### Contours that leave, ends of cycles, faults and holds -/

/-- A contour that leaves is neither LOADING, SEALED nor ACTIVE. -/
theorem keeps_dropActive (f : Contour → Contour)
    (h : ∀ r, (f r).status ≠ .loading ∧ (f r).status ≠ .sealed ∧ (f r).status ≠ .active) :
    Keeps k s (dropActive f s) := by
  cases hc : s.cyc.active with
  | none => exact .of_eq (dropActive_none s f hc)
  | some c =>
    have status (d) : (dropActive f s).statusOf d = if d = c then (s.contour? c).map (fun r => (f r).status)
        else s.statusOf d := by
      rw [← statusOf_modContour]
      simp only [dropActive, hc]
      rfl
    have other (st : ContourStatus) (hst : st = .loading ∨ st = .sealed ∨ st = .active) (d) :
        (dropActive f s).statusOf d = some st ↔ d ≠ c ∧ s.statusOf d = some st := by
      rw [status]
      split
      · next e =>
        simp only [e, Option.map_eq_some_iff, ne_eq, not_true_eq_false, false_and, iff_false, not_exists, not_and]
        rintro r - rfl
        obtain ⟨h1, h2, h3⟩ := h r
        rcases hst with e | e | e
        · exact h1 e
        · exact h2 e
        · exact h3 e
      · next e => simp [e]
    have store : dropActive f s = _ := dropActive_some s f c hc
    refine ⟨by rw [store], fun _ => by rw [store], by rw [store]; exact fun _ _ => id, by rw [store]; exact id, ?_, ?_, ?_, ?_,
    ?_, ?_, ?_, ?_⟩
    · rw [store]
      exact fun hs => (List.length_filter_le _ _).trans hs
    · rw [store]
      rintro ⟨hpair, hrange, hnext⟩
      exact ⟨hpair.sublist (List.filter_sublist.map _), fun g hg => hrange g (List.mem_of_mem_filter hg), hnext⟩
    · exact fun hs a b ha hb =>
        hs a b ((other _ (.inl rfl) a).mp ha).2 ((other _ (.inl rfl) b).mp hb).2
    · rw [store]
      rintro ⟨hphase, -, hhold, hhoming, habort⟩
      exact ⟨hphase, fun e => absurd rfl e, hhold, hhoming, habort⟩
    · rintro - ⟨hnodup, hsealed, hactive⟩
      have hrun : (dropActive f s).prog.runList = s.prog.runList := by rw [store]
      have hact : (dropActive f s).cyc.active = none := by rw [store]
      have hc' : s.statusOf c = some .active := (hactive c).mp hc
      refine ⟨hrun ▸ hnodup, fun d => ?_, fun d => ?_⟩
      · rw [hrun, hsealed, other _ (.inr (.inl rfl))]
        refine ⟨fun e => ⟨?_, e⟩, And.right⟩
        rintro rfl
        simp [e] at hc'
      · rw [hact, other _ (.inr (.inr rfl))]
        refine ⟨fun e => by simp at e, fun ⟨hne, e⟩ => absurd ((hactive d).mpr e) ?_⟩
        rw [hc]
        exact fun e => hne (Option.some.inj e).symm
    · rw [store]
      exact id
    · rw [store]
      exact fun _ => id
    · rw [store]
      intro _ hs
      refine ⟨fun hm => ?_, fun _ => id⟩
      obtain ⟨h1, h2, h3, h4, h5, h6, -, -, -, h10, hh, hj⟩ := hs hm
      exact ⟨h1, h2, rfl, h4, h5, h6, rfl, rfl, rfl, h10, hh, hj⟩

theorem keeps_endCycle (ha : Awake k s) (hact : CycleLaw s → s.cyc.active = none)
    (hh : CycleLaw s → s.homing.axis = none) : Keeps k s (endCycle s) := by
  rw [endCycle_eq]
  refine ⟨rfl, fun _ => rfl, fun _ _ => id, id, id, id, id, fun hs => ?_, fun _ => id, fun _ hopen => absurd rfl hopen,
    fun _ => id, fun hl _ => ⟨fun hm => MachineState.noConfusion hm, fun _ hm => absurd hm (ha hl)⟩⟩
  exact ⟨rfl, fun e => absurd (hact hs) e, by simp, fun e => absurd (hh hs) e, by simp⟩

/-- The fault action drops the active contour; the rest of what it leaves is FAULT. -/
theorem keeps_enterFault (fc : FaultCause) (s : State) : Keeps k s (enterFault fc s) := by
  have dropped : Keeps k s (dropActive (Contour.abandoned fc.reason) s) :=
    keeps_dropActive _ fun r => by simp [Contour.abandoned]
  refine dropped.trans ?_
  have taken := enterFault_taken s fc
  unfold FaultTaken at taken
  generalize (enterFault fc s).jet.bandIn = band at taken
  have hprog : (enterFault fc s).prog = (dropActive (Contour.abandoned fc.reason) s).prog := by
    rw [taken]
    cases hc : s.cyc.active with
    | none => rw [dropActive_none s _ hc]; simp [programAbandoned, hc]
    | some c => rw [dropActive_some s _ c hc]; simp [programAbandoned, hc]; rfl
  have hactive : (dropActive (Contour.abandoned fc.reason) s).cyc.active = none := by
    cases hc : s.cyc.active with
    | none => rw [dropActive_none s _ hc, hc]
    | some c => rw [dropActive_some s _ c hc]
  have hsame : ∀ u : State, u.prog = (dropActive (Contour.abandoned fc.reason) s).prog →
      ∀ c, u.statusOf c = (dropActive (Contour.abandoned fc.reason) s).statusOf c := by
    intro u hu c
    simp only [State.statusOf, State.contour?, hu]
  have hrest : (dropActive (Contour.abandoned fc.reason) s).pending = s.pending
      ∧ (dropActive (Contour.abandoned fc.reason) s).axes = s.axes
      ∧ (dropActive (Contour.abandoned fc.reason) s).ports = s.ports
      ∧ (dropActive (Contour.abandoned fc.reason) s).path.override = s.path.override
      ∧ (dropActive (Contour.abandoned fc.reason) s).cyc.reqOverride = s.cyc.reqOverride
      ∧ (dropActive (Contour.abandoned fc.reason) s).jet = s.jet
      ∧ (dropActive (Contour.abandoned fc.reason) s).alert = s.alert := by
    cases hc : s.cyc.active with
    | none => rw [dropActive_none s _ hc]; simp
    | some c => rw [dropActive_some s _ c hc]; simp
  generalize dropActive (Contour.abandoned fc.reason) s = d at hprog hactive hsame hrest
  obtain ⟨hpend, haxes, hports, hover, hreq, hjet, halert⟩ := hrest
  constructor
  case pending => rw [taken, hpend]
  case ports => exact fun _ => by rw [taken, hports]
  case homed =>
    intro _ a h
    rw [taken] at h
    rw [haxes]
    cases a <;> simp_all [PerAxis.get, Channel.faulted]
  case override => simp [OverrideLaw, taken, hports, hover, hreq]
  case store => simp [StoreLaw, hprog]
  case sequence => simp [SequenceLaw, hprog]
  case loading =>
    intro h a b ha hb
    rw [hsame _ hprog] at ha hb
    exact h a b ha hb
  case cycle =>
    intro _
    rw [taken]
    exact ⟨rfl, fun e => absurd rfl e, by simp, fun e => absurd rfl e, by simp⟩
  case runList =>
    rintro - ⟨hnodup, hsealed, hact⟩
    refine ⟨hprog ▸ hnodup, fun c => ?_, fun c => ?_⟩
    · rw [hprog, hsame _ hprog, hsealed]
    · rw [hsame _ hprog, ← hact, hactive, taken]
  case valves => simp [ValvesLaw, taken, Jet.shut]
  case record =>
    rintro - ⟨-, ht, hn⟩
    rw [taken]
    refine ⟨fun r hr => ?_, by simpa [Jet.shut, hjet] using ht, by simpa [Jet.shut, hjet] using hn⟩
    obtain rfl := Option.some.inj hr
    exact counted_recordAlert _ _ _ _
  case fault =>
    intro _ _
    rw [taken]
    exact ⟨fun _ => ⟨rfl, rfl, rfl, rfl, rfl, rfl, rfl, rfl, rfl, rfl, rfl, rfl, rfl, rfl, rfl, rfl, rfl, rfl, rfl, rfl⟩,
      fun _ _ => rfl⟩

theorem keeps_faultAction (fc : FaultCause) (s : State) : Keeps k s (faultAction fc s) := by
  unfold faultAction
  exact .ite (fun _ => keeps_raiseAlert _ _ _) fun _ => keeps_enterFault fc s

theorem keeps_followingCheck (a : Axis) (s : State) : Keeps k s (followingCheck a s) :=
  .ite (fun _ => keeps_faultAction _ _) fun _ => .refl _ _

theorem keeps_foldl {α : Type} (f : State → α → State) (h : ∀ u a, Keeps k u (f u a)) (l : List α) (s : State) :
    Keeps k s (l.foldl f s) := by
  induction l generalizing s with
  | nil => exact .refl k s
  | cons a l ih => exact (h s a).trans (ih _)

theorem keeps_followingCheckAll (s : State) : Keeps k s (followingCheckAll s) :=
  keeps_foldl _ (fun _ _ => keeps_faultAction _ _) _ s

theorem keeps_retestCause (s : State) : Keeps k s (retestCause s) := by
  unfold retestCause
  split
  · exact .ite (fun _ => .refl k s) fun _ => keeps_cycMarks _ ⟨rfl, rfl, rfl, rfl, rfl⟩ rfl (.inr ⟨id, id⟩)
  · exact .refl k s

theorem dropActive_cyc (f : Contour → Contour) (s : State) :
    (dropActive f s).cyc = { s.cyc with active := none } ∧ (dropActive f s).homing = s.homing := by
  cases hc : s.cyc.active with
  | none => rw [dropActive_none s f hc, ← hc]; exact ⟨rfl, rfl⟩
  | some c => rw [dropActive_some s f c hc]; exact ⟨rfl, rfl⟩

/-- An ABORT comes to rest in a cycle. -/
theorem keeps_abandonByAbort (ha : Awake k s) (hm : s.cyc.abortPending = true ∨ s.cyc.mstate.inCycle = true) :
    Keeps k s (abandonByAbort s) := by
  obtain ⟨hcyc, -⟩ := dropActive_cyc (Contour.abandoned .abort) s
  have dropped : Keeps k s (dropActive (Contour.abandoned .abort) s) :=
    keeps_dropActive _ fun r => by simp [Contour.abandoned]
  refine dropped.trans (keeps_endCycle (ha.congr (by rw [hcyc])) (fun _ => by rw [hcyc]) fun hs => ?_)
  refine homing_none_of_inCycle hs (hm.elim (fun hp => ?_) fun hp => by rwa [hcyc])
  exact hs.2.2.2.2 (by rwa [hcyc])

theorem keeps_settleRest (ha : Awake k s) : Keeps k s (settleRest s) := by
  unfold settleRest
  refine .ite (fun _ => .refl k s) fun _ => .ite (fun hp => keeps_abandonByAbort ha (.inl hp)) fun _ =>
    .ite (fun hm => ?_) fun _ => .refl k s
  have written : Keeps k s
      (s.onCyc fun c => { c with hold := c.hold.map fun h => { h with stop := stopPoint s } }) := by
    refine keeps_onCyc _ ⟨rfl, rfl, rfl, rfl, rfl⟩ (fun _ h hh => .inr ?_) (.inl ha)
    obtain ⟨g, hg, rfl⟩ := Option.map_eq_some_iff.mp hh
    exact ⟨g, hg, rfl⟩
  refine written.trans (keeps_enterState _ _ (by decide) (.inl ha) fun ⟨hphase, hactive, hhold, hhoming, habort⟩ => ?_)
  have hin : (s.onCyc fun c => { c with hold := c.hold.map fun h => { h with stop := stopPoint s } }).cyc.mstate
      = .holding := hm
  rw [hin] at hphase hhold hhoming
  exact ⟨hphase, hactive, fun _ => hhold (.inl rfl), fun e => absurd (hhoming e) (by decide), fun _ => rfl⟩

theorem keeps_stopMotion (ha : Awake k s) : Keeps k s (stopMotion s) :=
  (keeps_onPath (fun p => { p with motion := if pathStill s then .rest else .decel }) rfl (.inl ha)).trans
    (keeps_setZ _ (.inl ha))

/-- The phase of a new hold record is the phase of the state, in RUNNING and in RESUMING (R133, R136). -/
theorem newHoldRecord_phase (cause : HoldCause) (hs : CycleLaw s)
    (hm : s.cyc.mstate = .running ∨ s.cyc.mstate = .resuming) : s.cyc.phase = some (newHoldRecord cause s).phase := by
  obtain ⟨hphase, -, hhold, -⟩ := hs
  have hin : s.cyc.mstate.inCycle = true := by rcases hm with e | e <;> simp [e, MachineState.inCycle]
  obtain ⟨ph, hph⟩ := Option.isSome_iff_exists.mp (hphase.trans hin)
  unfold newHoldRecord
  dsimp only
  split
  · next h hkept =>
    split at hkept
    · next he => exact hhold (.inr (.inr he)) h hkept
    · simp at hkept
  · simp [hph]

/-- The machine states in which a hold is taken (R129). -/
theorem awake_of_running (hm : s.cyc.mstate = .running ∨ s.cyc.mstate = .resuming) : Awake k s :=
  hm.elim (fun e => .of_mstate e (by decide)) fun e => .of_mstate e (by decide)

/-- HOLDING is entered with the hold record that names the phase (R133). -/
theorem keeps_enterHolding {h : HoldRecord} (hm : s.cyc.mstate = .running ∨ s.cyc.mstate = .resuming)
    (hh : s.cyc.hold = some h) (hp : s.cyc.mstate = .running → s.cyc.phase.isSome = true → s.cyc.phase = some h.phase) :
    Keeps k s (enterState .holding s.cyc.phase s) := by
  refine keeps_enterState _ _ (by decide) (.inl (awake_of_running hm)) fun hs => ?_
  have hin : s.cyc.mstate.inCycle = true := by rcases hm with e | e <;> simp [e, MachineState.inCycle]
  obtain ⟨hphase, hactive, hhold, -⟩ := id hs
  refine ⟨hphase.trans hin, hactive, fun _ g hg => ?_, fun e => absurd (homing_none_of_inCycle hs hin) e, fun _ => rfl⟩
  obtain rfl : h = g := Option.some.inj (hh.symm.trans hg)
  exact hm.elim (fun e => hp e (hphase.trans hin)) fun e => hhold (.inr (.inr e)) h hh

theorem keeps_takeHold (cause : HoldCause) (d : AlertDetail)
    (hm : s.cyc.mstate = .running ∨ s.cyc.mstate = .resuming) : Keeps k s (takeHold cause d s) := by
  have phase : CycleLaw s → s.cyc.phase = some (newHoldRecord cause s).phase := fun hs =>
    newHoldRecord_phase cause hs hm
  have fresh : s.cyc.mstate = .running → s.cyc.phase.isSome = true → s.cyc.phase = some (newHoldRecord cause s).phase := by
    intro he hp
    obtain ⟨ph, hph⟩ := Option.isSome_iff_exists.mp hp
    simp [newHoldRecord, he, hph]
  unfold takeHold
  generalize newHoldRecord cause s = h at phase fresh
  dsimp only
  have awake : Awake k s := awake_of_running hm
  have same : (closeJet s).cyc = s.cyc ∧ (closeJet s).homing = s.homing := ⟨closeJet_cyc s, by rw [closeJet_eq]⟩
  have written : Keeps k (closeJet s) ((closeJet s).onCyc fun c => { c with hold := some h, deferredHold := false }) := by
    refine keeps_onCyc _ ⟨rfl, rfl, rfl, rfl, rfl⟩ (fun hs g hg => .inl ?_) (.inl (awake.congr (by rw [same.1])))
    obtain rfl : h = g := Option.some.inj hg
    rw [same.1]
    exact phase (by simpa only [CycleLaw, same.1, same.2] using hs)
  have counted : Keeps k _ (((closeJet s).onCyc fun c => { c with hold := some h, deferredHold := false }).modActive
    Contour.countHold) := keeps_modActive _ fun _ => rfl
  have cyc : (((closeJet s).onCyc fun c => { c with hold := some h, deferredHold := false }).modActive
      Contour.countHold).cyc = { s.cyc with hold := some h, deferredHold := false } := by
    rw [State.modActive_cyc, State.onCyc_cyc, same.1]
  refine ((keeps_closeJet s).trans (written.trans counted)).trans ?_
  generalize ((closeJet s).onCyc fun c => { c with hold := some h, deferredHold := false }).modActive
    Contour.countHold = v at cyc
  have holding : Keeps k v (enterState .holding v.cyc.phase v) :=
    keeps_enterHolding (h := h) (by rwa [cyc]) (by rw [cyc]) (by rwa [cyc])
  have awakeHolding : Awake k (enterState .holding v.cyc.phase v) := .of_mstate (m := .holding) (by simp) (by decide)
  have stopped : Keeps k _ (stopMotion (enterState .holding v.cyc.phase v)) := keeps_stopMotion awakeHolding
  have alerted : Keeps k _ (raiseHoldAlert cause d (alertContext s) (stopMotion (enterState .holding v.cyc.phase v))) :=
    keeps_raiseHoldAlert _ _ _
  refine (holding.trans (stopped.trans alerted)).trans (keeps_settleRest (awakeHolding.congr ?_))
  rw [raiseHoldAlert_eq, stopMotion_eq]

theorem keeps_holdCause (cause : HoldCause) (d : AlertDetail) (s : State) : Keeps k s (holdCause cause d s) := by
  have alert : Keeps k s (raiseHoldAlert cause d (alertContext s) s) := keeps_raiseHoldAlert _ _ _
  unfold holdCause
  split
  · next hm => exact .ite (fun _ => alert) fun _ => keeps_takeHold _ _ (.inl hm)
  · next hm => exact .ite (fun _ => alert) fun _ => keeps_takeHold _ _ (.inr hm)
  · exact alert
  · exact alert
  · exact alert
  all_goals exact .refl k s

theorem keeps_jetReport (cause : HoldCause) (s : State) : Keeps k s (jetReport cause s) := keeps_holdCause _ _ _

theorem keeps_live {f : State → State} (h : Live s → Keeps k s (f s)) : Keeps k s (live f s) := by
  unfold live
  exact .ite (fun _ => .refl k s) fun hl => h (by simpa using hl)

theorem keeps_withSetup {f : MachineSetup → State → State} (h : ∀ m, s.setups.setup = some m → Keeps k s (f m s)) :
    Keeps k s (withSetup f s) := by
  unfold withSetup
  split
  · exact .refl k s
  · next m hm => exact h m hm

theorem keeps_withCut {f : MachineSetup → Contour → ProcessSet → State → State}
    (h : ∀ m r p, s.cyc.active ≠ none → Keeps k s (f m r p s)) : Keeps k s (withCut f s) := by
  unfold withCut
  split
  · next m r p _ hr _ => exact h m r p (active_ne_none_of_contour hr)
  · exact .refl k s

end Sys2Proof.Proofs
end

section
/-! What the operations of the jet, the path and the cycle keep. -/

namespace Sys2Proof.Proofs

open Sys2Proof.Machine

variable {k : Scope} {s t u : State}

/-- Two states in the same machine state with the same contour. -/
def Alike (s u : State) : Prop := u.cyc.mstate = s.cyc.mstate ∧ u.cyc.active = s.cyc.active

theorem Alike.of_cyc (h : u.cyc = s.cyc) : Alike s u := ⟨by rw [h], by rw [h]⟩

theorem Alike.trans (h : Alike s t) (g : Alike t u) : Alike s u := ⟨g.1.trans h.1, g.2.trans h.2⟩

theorem Awake.alike (h : Awake k s) (g : Alike s u) : Awake k u := h.congr g.1

/-- One operation after another where the first stays in its machine state. -/
theorem Keeps.andThen (h : Keeps k s t) (ha : Awake k s) (g : Awake k t → Keeps k t u)
    (hm : t.cyc.mstate = s.cyc.mstate := by rfl) : Keeps k s u := h.trans (g (ha.congr hm))

theorem Keeps.lawful (h : Keeps k s t) (hl : k.lawful → FaultLaw s) : k.lawful → FaultLaw t := fun hk =>
  (h.fault hk (hl hk)).1

/-! ### The jet -/

@[simp] theorem reformDemand_cyc (s : State) : (reformDemand s).cyc = s.cyc := by rw [reformDemand_eq]

theorem keeps_enterJet (js : JetState) {onBand : State → State} (h : ∀ u, u.cyc = s.cyc → Keeps k u (onBand u)) :
    Keeps k s (enterJet js onBand s) := by
  unfold enterJet
  split
  · exact .refl k s
  · split
    · exact .refl k s
    · next hv =>
      replace hv : valvesAllowed s.cyc = true := by simpa using hv
      have entered : Keeps k s (reformDemand (s.onJet fun j =>
          { j with state := js, settle := .stopped, dip := .stopped, dipWatch := false })) :=
        (keeps_jetState hv _ rfl rfl).trans (keeps_reformDemand _)
      have same : (reformDemand (s.onJet fun j =>
          { j with state := js, settle := .stopped, dip := .stopped, dipWatch := false })).cyc = s.cyc := by simp
      have awake := (awake_of_valvesAllowed (k := k) hv).congr (congrArg (·.mstate) same)
      refine entered.trans (.ite (fun _ => ?_) fun _ => keeps_jetTimers awake _ rfl rfl rfl)
      exact (keeps_jetTimers awake _ rfl rfl rfl).trans (h _ same)

theorem keeps_countPierce (s : State) : Keeps k s (countPierce s) :=
  (keeps_onJet _ .inl (.inr id) (fun _ => id) fun _ _ => Nat.min_le_left _ _).trans (keeps_testWear _)

theorem alike_countPierce (s : State) : Alike s (countPierce s) := by
  unfold countPierce
  rw [testWear_eq]
  exact ⟨rfl, rfl⟩

theorem keeps_graceExpired (ha : Awake k s) : Keeps k s (graceExpired s) :=
  (keeps_jetTimers ha _ rfl rfl rfl).trans (keeps_jetReport _ _)

theorem keeps_startGrace (ha : Awake k s) (m : MachineSetup) : Keeps k s (startGrace m s) :=
  .ite (fun _ => keeps_graceExpired ha) fun _ => keeps_jetTimers ha _ rfl rfl rfl

theorem keeps_readAbrasive (ha : Awake k s) (m : MachineSetup) : Keeps k s (readAbrasive m s) :=
  (keeps_jetTimers ha (fun j => { j with abrasiveDelay := .stopped, abrasiveWatch := true }) rfl rfl rfl).andThen ha
    fun ha => .ite (fun _ => .refl _ _) fun _ => keeps_startGrace ha m

theorem keeps_startAbrasive (ha : Awake k s) (m : MachineSetup) : Keeps k s (startAbrasive m s) :=
  .ite (fun _ => keeps_readAbrasive ha m) fun _ => keeps_jetTimers ha _ rfl rfl rfl

theorem not_atRest_of_isOpen (h : s.jet.isOpen = true) : ¬ s.jet.AtRest := fun hr => by
  simp [Jet.isOpen, hr.1] at h

theorem keeps_openJet (js : JetState) (pierce : Bool) {onBand : State → State}
    (h : ∀ u, Alike s u → Keeps k u (onBand u)) : Keeps k s (openJet js pierce onBand s) := by
  unfold openJet
  split
  · exact .refl k s
  · next m _ =>
    split
    · exact .refl k s
    · next hv =>
      have hv : valvesAllowed s.cyc = true := by simp_all
      have lawful : k.lawful → FaultLaw s := fun hk hm => absurd hm (awake_of_valvesAllowed hv hk)
      refine .ite (fun _ => keeps_jetReport _ _) fun _ => ?_
      have counted : Keeps k s (if pierce then countPierce s else s) ∧ Alike s (if pierce then countPierce s else s) := by
        cases pierce
        · exact ⟨.refl k s, rfl, rfl⟩
        · exact ⟨keeps_countPierce s, alike_countPierce s⟩
      generalize (if pierce then countPierce s else s) = u at counted
      have opened : Keeps k s (enterJet js onBand u) :=
        counted.1.trans (keeps_enterJet js fun v hv => h v (counted.2.trans (.of_cyc hv)))
      exact opened.trans (.ite (fun hopen =>
        keeps_startAbrasive (awake_of_jet (opened.lawful lawful) (not_atRest_of_isOpen hopen)) m) fun _ => .refl _ _)

theorem keeps_startDwell (ha : Awake k s) (p : PierceTimer) (ms : Nat) {ended : State → State}
    (h : Keeps k s (ended s)) : Keeps k s (startDwell p ms ended s) :=
  .ite (fun _ => h) fun _ => keeps_jetTimers ha _ rfl rfl rfl

theorem keeps_followClass (cls : SegClass) (s : State) : Keeps k s (followClass cls s) := by
  unfold followClass
  split
  · exact keeps_enterJet _ fun _ _ => .refl _ _
  · exact keeps_enterJet _ fun _ _ => .refl _ _
  · exact keeps_enterJet _ fun _ _ => .refl _ _
  · exact keeps_enterJet _ fun _ _ => .refl _ _
  · exact keeps_enterJet _ fun _ _ => .refl _ _
  · exact .refl _ _

theorem keeps_abrflowAsserted (s : State) : Keeps k s (abrflowAsserted s) :=
  keeps_onJet _ .inl (.inr fun ⟨h1, h2, h3, h4, h5, h6, h7, _, h9⟩ => ⟨h1, h2, h3, h4, h5, h6, h7, rfl, h9⟩)
    (fun _ => id) fun _ => id

theorem keeps_abrflowNegated (hl : k.lawful → FaultLaw s) : Keeps k s (abrflowNegated s) :=
  keeps_withSetup fun m _ => .ite (fun hw => keeps_startGrace (awake_of_jet hl fun hr => by simp_all) m) fun _ => .refl _ _

theorem keeps_pumprdyNegated (s : State) : Keeps k s (pumprdyNegated s) :=
  .ite (fun _ => keeps_jetReport _ _) fun _ => .refl _ _

theorem keeps_settleExpired (hl : k.lawful → FaultLaw s) : Keeps k s (settleExpired s) := by
  unfold settleExpired
  split
  · exact .refl k s
  · next h => exact (keeps_jetTimers (awake_of_jet hl fun hr => by simp_all) _ rfl rfl rfl).trans (keeps_jetReport _ _)

theorem keeps_dipExpired (hl : k.lawful → FaultLaw s) : Keeps k s (dipExpired s) := by
  unfold dipExpired
  split
  · exact .refl k s
  · next h => exact (keeps_jetTimers (awake_of_jet hl fun hr => by simp_all) _ rfl rfl rfl).trans (keeps_jetReport _ _)

theorem keeps_delayExpired (hl : k.lawful → FaultLaw s) : Keeps k s (delayExpired s) := by
  unfold delayExpired
  split
  · exact .refl k s
  · next h => exact keeps_withSetup fun m _ => keeps_readAbrasive (awake_of_jet hl fun hr => by simp_all) m

theorem keeps_graceTimerExpired (hl : k.lawful → FaultLaw s) : Keeps k s (graceTimerExpired s) := by
  unfold graceTimerExpired
  split
  · exact .refl k s
  · next h => exact keeps_graceExpired (awake_of_jet hl fun hr => by simp_all)

theorem keeps_jetTimeCounted (s : State) : Keeps k s (jetTimeCounted s) :=
  .ite (fun _ => (keeps_onJet _ .inl (.inr id) (fun _ _ => Nat.min_le_left _ _) fun _ => id).trans (keeps_testWear _))
    fun _ => .refl k s

theorem keeps_rampTicked (hl : k.lawful → FaultLaw s) : Keeps k s (rampTicked s) := by
  unfold rampTicked
  split
  · next h =>
    exact .ite (fun _ => (keeps_jetTimers (awake_of_jet hl fun hr => by simp_all) _ rfl rfl rfl).trans
      (keeps_reformDemand _)) fun _ => .refl k s
  all_goals exact .refl k s

/-! ### The path and Z -/

theorem keeps_followCursor {move : Int → Channel → Channel} (hm : ∀ x c, (move x c).homed = c.homed) (s : State) :
    Keeps k s (followCursor move s) := by
  unfold followCursor
  split
  · exact keeps_onAxes _ fun a => by cases a <;> simp [PerAxis.get, hm]
  · exact .refl k s

theorem keeps_setCursor (ha : Awake k s) (p : Option Pos) : Keeps k s (setCursor p s) := keeps_onPath _ rfl (.inl ha)

theorem keeps_jumpCursor (ha : Awake k s) (p : Pos) : Keeps k s (jumpCursor p s) :=
  (keeps_setCursor ha (some p)).trans (keeps_followCursor (move := Channel.jump) (fun _ _ => rfl) _)

theorem keeps_clearCursor (s : State) : Keeps k s (clearCursor s) := keeps_onPath _ rfl (.inr ⟨rfl, rfl, rfl⟩)

theorem keeps_releasePath (ha : Awake k s) : Keeps k s (releasePath s) := keeps_onPath _ rfl (.inl ha)

theorem keeps_setSpeed (ha : Awake k s) (v : Nat) : Keeps k s (setSpeed v s) := keeps_onPath _ rfl (.inl ha)

/-- A micrometre of the cursor leaves the override. -/
theorem cursorStep_override (s : State) :
    ∃ p : ProfileGenerator, cursorStep s = { s with path := p } ∧ p.override = s.path.override := by
  unfold cursorStep
  split
  · dsimp only
    repeat' split
    all_goals exact ⟨_, rfl, rfl⟩
  · exact ⟨_, rfl, rfl⟩

theorem keeps_cursorStep (ha : Awake k s) : Keeps k s (cursorStep s) := by
  obtain ⟨p, hp, ho⟩ := cursorStep_override s
  rw [hp]
  exact keeps_onPath (fun _ => p) ho (.inl ha)

theorem cursorStep_cyc (s : State) : (cursorStep s).cyc = s.cyc := by
  obtain ⟨p, hp, -⟩ := cursorStep_override s
  rw [hp]

theorem keeps_cursorToPulse (n : Nat) (ha : Awake k s) : Keeps k s (cursorToPulse n s) := by
  induction n generalizing s with
  | zero => exact .refl k s
  | succ n ih =>
    exact .ite (fun _ => keeps_cursorStep ha) fun _ =>
      (keeps_cursorStep ha).trans (ih (ha.congr (by rw [cursorStep_cyc])))

theorem keeps_cursorFree (n : Nat) (ha : Awake k s) : Keeps k s (cursorFree n s) := by
  induction n generalizing s with
  | zero => exact .refl k s
  | succ n ih =>
    exact .ite (fun _ => .refl k s) fun _ => (keeps_cursorStep ha).trans (ih (ha.congr (by rw [cursorStep_cyc])))

theorem keeps_stepToPoint (a : Axis) (s : State) : Keeps k s (stepToPoint a s) := by
  unfold stepToPoint
  split
  · exact .refl k s
  · exact keeps_onAxis _ _ id

theorem keeps_pathPulse (a : Axis) (ha : Awake k s) : Keeps k s (pathPulse a s) :=
  .ite (fun _ => keeps_stepToPoint a s) fun _ => .ite (fun _ => .refl k s) fun _ =>
    .ite (fun _ => (keeps_cursorToPulse 4 ha).trans (keeps_stepToPoint a _)) fun _ => .refl k s

theorem keeps_clampToEnvelope (hl : k.lawful → FaultLaw s) : Keeps k s (clampToEnvelope s) := by
  unfold clampToEnvelope
  split
  · next hc _ => exact .ite (fun _ => keeps_setSpeed (awake_of_cursor hl (by simp [hc])) _) fun _ => .refl k s
  · exact .refl k s

theorem keeps_zReaches (target : Int) (s : State) : Keeps k s (zReaches target s) :=
  (keeps_onAxis .z _ id).trans (keeps_setZ _ (.inr rfl))

theorem keeps_zRests (s : State) : Keeps k s (zRests s) := (keeps_onAxis .z _ id).trans (keeps_setZ _ (.inr rfl))

theorem keeps_zArrived {go : State → State} (h : ∀ u, Alike s u → Keeps k u (go u)) : Keeps k s (zArrived go s) := by
  refine .ite (fun _ => ?_) fun _ => h s ⟨rfl, rfl⟩
  have cleared : Keeps k s (s.onCyc fun c => { c with suspension := false }) :=
    keeps_cycMarks _ ⟨rfl, rfl, rfl, rfl, rfl⟩ rfl (.inr ⟨id, fun _ => rfl⟩)
  exact cleared.trans (.ite (fun _ => keeps_faultAction _ _) fun _ => h _ ⟨rfl, rfl⟩)

theorem keeps_nameZMove (ha : Awake k s) (target : Int) (purpose : ZPurpose) {go : State → State}
    (h : ∀ u, Alike s u → Keeps k u (go u)) : Keeps k s (nameZMove target purpose go s) :=
  .ite (fun _ => keeps_zArrived h) fun _ => (keeps_onAxis .z _ id).trans (keeps_setZ _ (.inl ha))

theorem keeps_toClearance (ha : Awake k s) (purpose : ZPurpose) {go : State → State}
    (h : ∀ u, Alike s u → Keeps k u (go u)) : Keeps k s (toClearance purpose go s) :=
  keeps_withSetup fun _ _ => keeps_nameZMove ha _ _ h

/-! ### The pierce -/

theorem keeps_setStep (ha : Awake k s) (n : Option Nat) : Keeps k s (setStep n s) := keeps_jetTimers ha _ rfl rfl rfl

theorem keeps_stopPierceTimer (ha : Awake k s) : Keeps k s (stopPierceTimer s) := keeps_jetTimers ha _ rfl rfl rfl

/-- A step begins with the pierce timer stopped. -/
theorem keeps_toStep (ha : Awake k s) (n : Option Nat) : Keeps k s (setStep n (stopPierceTimer s)) :=
  (keeps_stopPierceTimer ha).andThen ha fun ha => keeps_setStep ha n

/-- A phase of RUNNING other than WAIT is entered with a contour. -/
theorem keeps_enterRunning_active (ph : Phase) (hp : ph ≠ .wait) (ha : Awake k s) (hact : s.cyc.active ≠ none) :
    Keeps k s (enterState .running (some ph) s) :=
  keeps_enterRunning ph ha (fun hs => homing_none_of_active hs hact) fun e => absurd e hp

theorem keeps_pierceComplete (ha : Awake k s) (hact : s.cyc.active ≠ none) : Keeps k s (pierceComplete s) := by
  unfold pierceComplete
  dsimp only
  have flagged : Keeps k s (s.modActive fun r => { r with pierceComplete := true }) := keeps_modActive _ fun _ => rfl
  have same : (s.modActive fun r => { r with pierceComplete := true }).cyc = s.cyc := State.modActive_cyc _ _
  generalize (s.modActive fun r => { r with pierceComplete := true }) = u at *
  have awake : Awake k u := ha.alike (.of_cyc same)
  have entered : Keeps k u (enterState .running (some .cut) (setStep none u)) :=
    (keeps_setStep awake none).trans (keeps_enterRunning_active _ (by decide) awake (by rwa [← same] at hact))
  have running : (enterState .running (some .cut) (setStep none u)).cyc.mstate = .running := by simp
  exact (flagged.trans entered).trans (.ite (fun _ => keeps_takeHold _ _ (.inl running)) fun _ =>
    keeps_releasePath (.of_mstate running (by decide)))

theorem keeps_enterRamp (ms : Nat) (s : State) : Keeps k s (enterRamp ms s) :=
  .ite (fun _ => .refl k s) fun hv => (keeps_jetState (by simpa using hv) _ rfl rfl).trans (keeps_reformDemand _)

@[simp] theorem enterRamp_cyc (ms : Nat) (s : State) : (enterRamp ms s).cyc = s.cyc := by
  unfold enterRamp
  split
  · rfl
  · simp

/-- A Z move of a pierce step ends the pierce. -/
theorem keeps_lastStep (ha : Awake k s) (n : Nat)
    (height : MachineSetup → Contour → ProcessSet → Int) :
    Keeps k s (withCut (fun m r f s => nameZMove (height m r f) .pierceStep pierceComplete (setStep (some n) s)) s) :=
  keeps_withCut fun _ _ _ hact => (keeps_setStep ha (some n)).andThen ha fun ha =>
    keeps_nameZMove ha _ _ fun _ hu => keeps_pierceComplete (ha.alike hu) (hu.2 ▸ hact)

theorem keeps_static7 (ha : Awake k s) : Keeps k s (static7 s) := keeps_lastStep ha 7 cutHeight

theorem keeps_static6 (ha : Awake k s) : Keeps k s (static6 s) :=
  keeps_withCut fun _ _ _ _ => (keeps_setStep ha (some 6)).andThen ha fun ha =>
      keeps_startDwell ha _ _ (keeps_static7 ha)

theorem keeps_static5 (ha : Awake k s) : Keeps k s (static5 s) :=
  (keeps_toStep ha (some 5)).trans (keeps_enterJet _ fun _ hu => keeps_static6 (ha.alike (.of_cyc hu)))

theorem keeps_static4 (ha : Awake k s) : Keeps k s (static4 s) :=
  keeps_withCut fun _ _ _ _ =>
    (keeps_setStep ha (some 4)).andThen ha fun ha =>
      .ite (fun _ => keeps_static5 ha) fun _ => keeps_enterRamp _ _

theorem keeps_static3 (ha : Awake k s) : Keeps k s (static3 s) :=
  keeps_withCut fun _ _ _ _ => (keeps_setStep ha (some 3)).andThen ha fun ha =>
      keeps_startDwell ha _ _ (keeps_static4 ha)

theorem keeps_static2 (ha : Awake k s) : Keeps k s (static2 s) :=
  (keeps_setStep ha (some 2)).andThen ha fun ha =>
      keeps_openJet _ _ fun _ hu => keeps_static3 (ha.alike hu)

theorem keeps_static1 (ha : Awake k s) : Keeps k s (static1 s) :=
  keeps_withCut fun _ _ _ _ =>
    (keeps_setStep ha (some 1)).andThen ha fun ha =>
      keeps_nameZMove ha _ _ fun _ hu => keeps_static2 (ha.alike hu)

theorem alike_enterJet_id (js : JetState) (s : State) : Alike s (enterJet js id s) := by
  unfold enterJet
  split
  · exact ⟨rfl, rfl⟩
  · split
    · exact ⟨rfl, rfl⟩
    · dsimp only
      split <;> exact .of_cyc (by simp)

theorem keeps_creep5 (ha : Awake k s) (hact : s.cyc.active ≠ none) : Keeps k s (creep5 s) := by
  have entered : Keeps k s (enterJet .cut id (setStep (some 5) (stopPierceTimer s))) :=
    (keeps_toStep ha (some 5)).trans (keeps_enterJet _ fun _ _ => .refl _ _)
  have alike : Alike s (enterJet .cut id (setStep (some 5) (stopPierceTimer s))) :=
    alike_enterJet_id .cut (setStep (some 5) (stopPierceTimer s))
  exact entered.trans (keeps_pierceComplete (ha.alike alike) (alike.2 ▸ hact))

theorem keeps_creep4 (ha : Awake k s) : Keeps k s (creep4 s) :=
  keeps_withCut fun _ _ f hact => by
    have entered : Keeps k s (enterState .running (some .cut) (setStep (some 4) s)) :=
      (keeps_setStep ha _).trans (keeps_enterRunning_active _ (by decide) ha hact)
    have cyc := enterState_mstate .running (some .cut) (setStep (some 4) s)
    dsimp only
    generalize enterState .running (some .cut) (setStep (some 4) s) = u at *
    have awake : Awake k u := .of_mstate (m := .running) (by rw [cyc]) (by decide)
    refine entered.trans (.ite (fun _ => keeps_creep5 awake (by rwa [cyc])) fun _ => ?_)
    exact (keeps_enterRamp _ _).trans (keeps_releasePath (awake.congr (by rw [enterRamp_cyc])))

theorem keeps_creep3 (ha : Awake k s) : Keeps k s (creep3 s) :=
  keeps_withCut fun _ _ _ _ => (keeps_setStep ha (some 3)).andThen ha fun ha =>
      keeps_startDwell ha _ _ (keeps_creep4 ha)

theorem keeps_creep2 (ha : Awake k s) : Keeps k s (creep2 s) :=
  (keeps_setStep ha (some 2)).andThen ha fun ha =>
      keeps_openJet _ _ fun _ hu => keeps_creep3 (ha.alike hu)

theorem keeps_creep1 (ha : Awake k s) : Keeps k s (creep1 s) :=
  keeps_withCut fun _ _ _ _ =>
    (keeps_setStep ha (some 1)).andThen ha fun ha =>
      keeps_nameZMove ha _ _ fun _ hu => keeps_creep2 (ha.alike hu)

theorem keeps_drilled4 (ha : Awake k s) : Keeps k s (drilled4 s) := keeps_lastStep ha 4 cutHeight

theorem keeps_drilled3 (ha : Awake k s) : Keeps k s (drilled3 s) :=
  keeps_withCut fun _ _ _ _ => (keeps_setStep ha (some 3)).andThen ha fun ha =>
      keeps_startDwell ha _ _ (keeps_drilled4 ha)

theorem keeps_drilled2 (ha : Awake k s) : Keeps k s (drilled2 s) :=
  (keeps_setStep ha (some 2)).andThen ha fun ha =>
      keeps_openJet _ _ fun _ hu => keeps_drilled3 (ha.alike hu)

theorem keeps_drilled1 (ha : Awake k s) : Keeps k s (drilled1 s) :=
  keeps_withCut fun _ _ _ _ =>
    (keeps_setStep ha (some 1)).andThen ha fun ha =>
      keeps_nameZMove ha _ _ fun _ hu => keeps_drilled2 (ha.alike hu)

theorem keeps_beginPierce (ha : Awake k s) : Keeps k s (beginPierce s) := by
  unfold beginPierce
  split
  · exact .refl k s
  · exact keeps_static1 ha
  · exact keeps_creep1 ha
  · exact keeps_drilled1 ha

theorem active_ne_none_of_method {p : PierceMethod} (h : activeMethod s = some p) : s.cyc.active ≠ none := by
  obtain ⟨r, hr, -⟩ := Option.map_eq_some_iff.mp h
  exact active_ne_none_of_contour hr

theorem keeps_pierceMoved (ha : Awake k s) : Keeps k s (pierceMoved s) := by
  unfold pierceMoved
  split
  · exact keeps_static2 ha
  · next h _ => exact keeps_pierceComplete ha (active_ne_none_of_method h)
  · exact keeps_creep2 ha
  · exact keeps_drilled2 ha
  · next h _ => exact keeps_pierceComplete ha (active_ne_none_of_method h)
  · exact .refl k s

/-! ### The approach, the continuation and the retract -/

theorem jumpCursor_cyc (p : Pos) (s : State) : (jumpCursor p s).cyc = s.cyc := by
  unfold jumpCursor followCursor
  split <;> rfl

/-- The pierce begins, in phase PIERCE with a contour (R103). -/
theorem keeps_pierceEntered (ha : Awake k s) (hh : CycleLaw s → s.homing.axis = none) :
    Keeps k s (beginPierce (enterState .running (some .pierce) s)) :=
  (keeps_enterRunning .pierce ha hh nofun).trans
    (keeps_beginPierce (.of_mstate (m := .running) (by rw [enterState_mstate]) (by decide)))

theorem keeps_enterPierce (ha : Awake k s) : Keeps k s (enterPierce s) := by
  unfold enterPierce
  split
  · exact .refl k s
  · next g hg =>
    have hact : s.cyc.active ≠ none := by
      intro e
      simp [State.activeJets, State.activeSegments, e] at hg
    have started : Keeps k s ((s.modSegment g.seq fun g => { g with state := .active }).onPath fun p =>
        { p with speedSq := 0, motion := .rest }) :=
      (keeps_modSegment g.seq (fun g => { g with state := .active }) fun _ => rfl).andThen ha fun ha =>
        keeps_onPath _ rfl (.inl ha)
    have placed := started.andThen ha fun ha => keeps_jumpCursor ha ⟨g.seq, 0⟩
    have cyc := jumpCursor_cyc ⟨g.seq, 0⟩ ((s.modSegment g.seq fun g => { g with state := .active }).onPath
      fun p => { p with speedSq := 0, motion := .rest })
    exact placed.andThen ha
      (fun ha => keeps_pierceEntered ha fun hs => homing_none_of_active hs (by rw [cyc]; exact hact)) (by rw [cyc]; rfl)

theorem keeps_startDescent (ha : Awake k s) : Keeps k s (startDescent s) :=
  keeps_withSetup fun _ _ => .ite (fun _ => keeps_faultAction _ _) fun _ =>
    (keeps_onAxis .z _ id).trans (keeps_setZ _ (.inl ha))

theorem keeps_enterProbe (hr : s.cyc.mstate = .running) : Keeps k s (enterProbe s) := by
  have entered : Keeps k s (enterState .running (some .probe) s) :=
    keeps_enterRunning _ (.of_mstate hr (by decide)) (fun hs => homing_none_of_ne hs (by simp [hr])) nofun
  have awake : Awake k (enterState .running (some .probe) s) := .of_mstate (m := .running) (by simp) (by decide)
  unfold enterProbe
  dsimp only
  refine entered.trans ?_
  split
  · exact .refl _ _
  · exact keeps_startDescent awake
  · have written : Keeps k _ ((enterState .running (some .probe) s).modActive fun r =>
        { r with surfaceZ := (enterState .running (some .probe) s).cyc.surface }) := keeps_modActive _ fun _ => rfl
    exact written.andThen awake (fun ha => keeps_enterPierce ha) (by rw [State.modActive_cyc])

theorem running_of_advancing (h : advancing s = true) : s.cyc.mstate = .running := by
  simp only [advancing, Bool.and_eq_true, beq_iff_eq] at h
  exact h.1

theorem keeps_endTraverses (ha : Awake k s) : Keeps k s (endTraverses s) :=
  (keeps_clearCursor s).trans (.ite (fun h => keeps_enterProbe (running_of_advancing h)) fun _ => keeps_settleRest ha)

theorem keeps_beginTraverse (g : Segment) (ha : Awake k s) : Keeps k s (beginTraverse g s) := by
  have started : Keeps k s (setCursor (some ⟨g.seq, 0⟩) (s.modSegment g.seq fun g => { g with state := .active })) :=
    (keeps_modSegment g.seq (fun g => { g with state := .active }) fun _ => rfl).andThen ha fun ha => keeps_setCursor ha _
  exact started.andThen ha fun ha => (.ite (fun _ => keeps_onPath _ rfl (.inl ha)) fun _ =>
    (keeps_onPath (fun p => { p with speedSq := 0, motion := .rest }) rfl (.inl ha)).andThen ha keeps_settleRest)

theorem keeps_completeTraverse (n : Nat) (ha : Awake k s) : Keeps k s (completeTraverse n s) := by
  unfold completeTraverse
  refine (keeps_dropSegments fun g => g.seq == n).trans ?_
  dsimp only
  split
  · exact keeps_beginTraverse _ ha
  · exact keeps_endTraverses ha

theorem startAt_seq (q : Point) (g : Segment) : (g.startAt q).seq = g.seq := by
  unfold Segment.startAt
  split <;> rfl

theorem keeps_approachArrived (ha : Awake k s) : Keeps k s (approachArrived s) := by
  unfold approachArrived
  split
  · exact keeps_endTraverses ha
  · exact .ite (fun _ => keeps_onPath _ rfl (.inl ha)) fun _ => (keeps_modSegment _ _ (startAt_seq _)).trans
      (.ite (fun _ => keeps_completeTraverse _ ha) fun _ => keeps_beginTraverse _ ha)

theorem keeps_beginApproach (ha : Awake k s) : Keeps k s (beginApproach s) :=
  keeps_toClearance ha _ fun _ hu => keeps_approachArrived (ha.alike hu)

/-- The head of the Run List leaves it as the contour that is ACTIVE (R10). -/
def headTaken (c : Fin Config.contours) (rest : List (Fin Config.contours)) (s : State) : State :=
  (s.onProg fun p => { p with runList := rest }).modContour c fun r => { r with status := .active }

theorem takeContour_eq (c : Fin Config.contours) (rest : List (Fin Config.contours)) (s : State) :
    takeContour c rest s = closeJet { s with
      prog := (headTaken c rest s).prog
      cyc := { s.cyc with mstate := .running, phase := some .approach, active := some c } } := by
  unfold takeContour headTaken State.modContour
  dsimp only
  split
  · exact enterState_closed _ _ _ rfl
  · exact enterState_closed _ _ _ rfl

theorem headTaken_statusOf (c d : Fin Config.contours) (rest : List (Fin Config.contours)) (s : State) :
    (headTaken c rest s).statusOf d = if d = c then (s.contour? c).map fun _ => .active else s.statusOf d := by
  rw [headTaken, statusOf_modContour]
  rfl

theorem headTaken_store (c : Fin Config.contours) (rest : List (Fin Config.contours)) (s : State) :
    (headTaken c rest s).prog.segments = s.prog.segments ∧ (headTaken c rest s).prog.nextSeq = s.prog.nextSeq
      ∧ (headTaken c rest s).prog.runList = rest := by
  unfold headTaken State.modContour
  split <;> exact ⟨rfl, rfl, rfl⟩

/-- The Run List loses its head, which becomes the one contour that is ACTIVE (R10). -/
theorem runListLaw_takeContour {c : Fin Config.contours} {rest : List (Fin Config.contours)}
    (hrun : s.prog.runList = c :: rest) (hact : s.cyc.active = none) (h : RunListLaw s) :
    RunListLaw { s with prog := (headTaken c rest s).prog, cyc := { s.cyc with active := some c } } := by
  obtain ⟨hnodup, hsealed, hactive⟩ := h
  obtain ⟨-, -, hlist⟩ := headTaken_store c rest s
  obtain ⟨hfresh, hnodup⟩ := List.nodup_cons.mp (hrun ▸ hnodup)
  have none_active (d) : s.statusOf d ≠ some .active := fun e => by simp [hact] at hactive; exact hactive d e
  have status (d) : State.statusOf { s with prog := (headTaken c rest s).prog, cyc := { s.cyc with active := some c } } d
      = if d = c then some .active else s.statusOf d := by
    have hc : s.statusOf c = some .sealed := (hsealed c).mp (by simp [hrun])
    obtain ⟨r, hr, -⟩ := Option.map_eq_some_iff.mp hc
    refine (headTaken_statusOf c d rest s).trans ?_
    rw [hr]
    rfl
  refine ⟨by rw [hlist]; exact hnodup, fun d => ?_, fun d => ?_⟩
  · rw [status, hlist]
    split
    · next e => simpa [e] using hfresh
    · next e => rw [← hsealed, hrun, List.mem_cons, or_iff_right e]
  · rw [status]
    split
    · next e => simp [e]
    · next e => simpa [none_active d] using fun h => e h.symm

theorem keeps_takeContour {c : Fin Config.contours} {rest : List (Fin Config.contours)}
    (hrun : s.prog.runList = c :: rest) (ha : Awake k s) (hact : CycleLaw s → s.cyc.active = none)
    (hh : CycleLaw s → s.homing.axis = none) : Keeps k s (takeContour c rest s) := by
  rw [takeContour_eq, closeJet_eq]
  obtain ⟨hsegs, hnext, -⟩ := headTaken_store c rest s
  constructor
  case pending => rfl
  case ports => exact fun _ => rfl
  case homed => exact fun _ _ => id
  case override => exact id
  case store => simp [StoreLaw, hsegs]
  case sequence => simp [SequenceLaw, hsegs, hnext]
  case loading =>
    have loading (d) (h : (headTaken c rest s).statusOf d = some .loading) : s.statusOf d = some .loading := by
      rw [headTaken_statusOf] at h
      split at h
      · simp at h
      · exact h
    exact fun hs a b ha hb => hs a b (loading a ha) (loading b hb)
  case cycle =>
    exact fun hs => ⟨rfl, fun _ => ⟨Option.some_ne_none _, by simp⟩, by simp,
      fun e => absurd (hh hs) e, fun _ => rfl⟩
  case runList => exact fun hc h => runListLaw_takeContour hrun (hact hc) h
  case valves => exact fun _ h => absurd rfl h
  case record => exact fun _ => id
  case fault => exact fun hl _ => ⟨fun e => MachineState.noConfusion e, fun _ hm => absurd hm (ha hl)⟩

/-- R11. -/
theorem keeps_continuationWith {go : State → State} (ha : Awake k s) (hact : CycleLaw s → s.cyc.active = none)
    (hh : CycleLaw s → s.homing.axis = none) (hgo : ∀ u, u.cyc.mstate = .running → Keeps k u (go u)) :
    Keeps k s (continuationWith go s) := by
  unfold continuationWith
  refine .ite (fun _ => keeps_endCycle ha hact hh) fun _ => ?_
  split
  · next c rest hrun =>
    exact (keeps_takeContour hrun ha hact hh).trans (hgo _ (by rw [takeContour_eq, closeJet_cyc]))
  · exact .ite (fun _ => keeps_enterRunning .wait ha hh fun _ => hact) fun _ => keeps_endCycle ha hact hh

theorem keeps_contourDone (hr : s.cyc.mstate = .running) : Keeps k s (contourDone s) := by
  obtain ⟨hcyc, -⟩ := dropActive_cyc (fun r => { r with status := .done }) s
  have running : (dropActive (fun r => { r with status := .done }) s).cyc.mstate = .running := by rw [hcyc, hr]
  exact (keeps_dropActive (fun r => { r with status := .done }) fun _ => by simp).trans
    (keeps_continuationWith (.of_mstate running (by decide)) (fun _ => by rw [hcyc])
      (fun hs => homing_none_of_ne hs (by simp [running])) fun _ hu => keeps_beginApproach (.of_mstate hu (by decide)))

theorem keeps_beginRetract (ha : Awake k s) (hm : s.cyc.mstate ≠ .homing) : Keeps k s (beginRetract s) := by
  have entered : Keeps k s (enterState .running (some .retract) (closeJet s)) :=
    (keeps_closeJet s).andThen ha (fun ha => keeps_enterRunning .retract ha
      (fun hs => homing_none_of_ne hs (by rwa [closeJet_cyc])) nofun) (by rw [closeJet_cyc])
  have running : (enterState .running (some .retract) (closeJet s)).cyc.mstate = .running := by rw [enterState_mstate]
  exact entered.trans (keeps_toClearance (.of_mstate running (by decide)) _ fun _ hu =>
    keeps_contourDone (hu.1.trans running))

/-! ### The completion of segments -/

theorem keeps_testWindow (s : State) : Keeps k s (testWindow s) := keeps_withSetup fun _ _ => keeps_dropSegments _

theorem testWindow_cyc (s : State) : (testWindow s).cyc = s.cyc := by
  unfold testWindow withSetup
  split <;> rfl

theorem keeps_clearHold (s : State) : Keeps k s (clearHold s) :=
  keeps_onCyc _ ⟨rfl, rfl, rfl, rfl, rfl⟩ (fun _ _ h => nomatch h) (.inr ⟨fun _ => rfl, id, id⟩)

theorem keeps_endJets (ha : Awake k s) : Keeps k s (endJets s) := by
  unfold endJets
  refine (keeps_clearCursor s).trans (.ite (fun _ => keeps_settleRest ha) fun _ => ?_)
  split
  · next hm => exact keeps_beginRetract ha fun e => nomatch hm.symm.trans e
  · next hm => exact (keeps_clearHold _).trans (keeps_beginRetract ha fun e => nomatch hm.symm.trans e)
  · exact keeps_settleRest ha

theorem keeps_completeJet (g : Segment) (ha : Awake k s) : Keeps k s (completeJet g s) := by
  have progressed : Keeps k s ((s.modSegment g.seq fun g => { g with state := .retained }).modActive fun r =>
      { r with completed := r.completed + 1, lengthDone := r.lengthDone + g.len }) :=
    (keeps_modSegment g.seq (fun g => { g with state := .retained }) fun _ => rfl).trans (keeps_modActive _ fun _ => rfl)
  have tested := progressed.trans (keeps_testWindow _)
  have cyc : (testWindow ((s.modSegment g.seq fun g => { g with state := .retained }).modActive fun r =>
      { r with completed := r.completed + 1, lengthDone := r.lengthDone + g.len })).cyc = s.cyc := by
    rw [testWindow_cyc, State.modActive_cyc, State.modSegment_cyc]
  unfold completeJet
  dsimp only
  refine tested.andThen ha (fun ha => ?_) (by rw [cyc])
  split
  · exact keeps_endJets ha
  · next h _ =>
    exact ((keeps_modSegment h.seq (fun h => { h with state := .active }) fun _ => rfl).andThen ha fun ha =>
      keeps_setCursor ha (some ⟨h.seq, 0⟩)).trans (keeps_followClass h.cls _)

theorem keeps_arriveAtEnd (m : MachineSetup) (p : Pos) (g : Segment) (ha : Awake k s) : Keeps k s (arriveAtEnd m p g s) :=
  (keeps_setSpeed ha (forwardSpeed s m g p.dist (g.len - p.dist))).andThen ha fun ha => keeps_jumpCursor ha ⟨g.seq, g.len⟩

theorem arriveAtEnd_cyc (m : MachineSetup) (p : Pos) (g : Segment) (s : State) : (arriveAtEnd m p g s).cyc = s.cyc :=
  jumpCursor_cyc _ _

theorem keeps_segmentCompleted (hl : k.lawful → FaultLaw s) : Keeps k s (segmentCompleted s) := by
  unfold segmentCompleted
  split
  · next m p g _ hcur _ =>
    have ha : Awake k s := awake_of_cursor hl (by simp [hcur])
    have arrived := keeps_arriveAtEnd m p g ha
    refine .ite (fun _ => .refl k s) fun _ => ?_
    split
    · exact arrived.andThen ha (fun ha => .ite (fun _ => keeps_completeTraverse _ ha) fun _ => keeps_completeJet _ ha)
        (by rw [arriveAtEnd_cyc])
    · exact .ite (fun _ => arrived.andThen ha keeps_endJets (by rw [arriveAtEnd_cyc])) fun _ => .refl k s
    · exact .refl k s
    · exact .refl k s
  · exact .refl k s

theorem keeps_boundaryPassed (hl : k.lawful → FaultLaw s) : Keeps k s (boundaryPassed s) := by
  unfold boundaryPassed
  split
  · next m p g _ hcur _ =>
    have ha : Awake k s := awake_of_cursor hl (by simp [hcur])
    have arrived := keeps_arriveAtEnd m p g ha
    refine .ite (fun _ => .refl k s) fun _ => ?_
    split
    · refine .ite (fun _ => .refl k s) fun _ => ?_
      split
      · exact arrived.andThen ha keeps_endJets (by rw [arriveAtEnd_cyc])
      · next h _ =>
        exact (arrived.andThen ha (fun ha => keeps_jumpCursor ha ⟨h.seq, 0⟩) (by rw [arriveAtEnd_cyc])).trans
          (keeps_followClass _ _)
    · split
      · exact .refl k s
      · exact (keeps_setSpeed ha _).andThen ha fun ha => keeps_jumpCursor ha _
  · exact .refl k s

theorem cursorFree_cyc (n : Nat) (s : State) : (cursorFree n s).cyc = s.cyc := by
  obtain ⟨p, hp⟩ := cursorFree_path s n
  rw [hp]

theorem keeps_pathRested (hl : k.lawful → FaultLaw s) : Keeps k s (pathRested s) := by
  refine .ite (fun hm => ?_) fun _ => .refl k s
  have ha : Awake k s := awake_of_motion hl (by simp [hm])
  exact ((keeps_cursorFree 4 ha).andThen ha (fun ha => keeps_onPath (fun p => { p with speedSq := 0, motion := .rest }) rfl
    (.inl ha)) (by rw [cursorFree_cyc])).andThen ha keeps_settleRest (by rw [State.onPath_cyc, cursorFree_cyc])

/-! ### The resume -/

theorem keeps_setResumeStep (r : ResumeStep) (ha : Awake k s) : Keeps k s (setResumeStep r s) := by
  refine keeps_onCyc _ ⟨rfl, rfl, rfl, rfl, rfl⟩ (fun _ h hh => .inr ?_) (.inl ha)
  obtain ⟨g, hg, rfl⟩ := Option.map_eq_some_iff.mp hh
  exact ⟨g, hg, rfl⟩

theorem keeps_beginRejoin (ha : Awake k s) : Keeps k s (beginRejoin s) := by
  have moving : Keeps k s (releasePath (setSpeed 0 (setResumeStep .rejoin (stopPierceTimer s)))) :=
    (((keeps_stopPierceTimer ha).andThen ha fun ha => keeps_setResumeStep .rejoin ha).andThen ha fun ha =>
      keeps_setSpeed ha 0).andThen ha fun ha => keeps_releasePath ha
  unfold beginRejoin
  refine moving.trans ?_
  dsimp only
  split
  · exact .refl _ _
  · exact keeps_followClass _ _

theorem keeps_kerfDwell (ha : Awake k s) : Keeps k s (kerfDwell s) :=
  keeps_withCut fun _ _ _ _ => keeps_startDwell ha _ _ (keeps_beginRejoin ha)

theorem keeps_kerfStart (ha : Awake k s) : Keeps k s (kerfStart s) :=
  (keeps_setResumeStep .kerfStart ha).trans (keeps_openJet _ _ fun _ hu => keeps_kerfDwell (ha.alike hu))

theorem keeps_backupReached (hm : s.cyc.mstate = .resuming) : Keeps k s (backupReached s) := by
  unfold backupReached
  split
  · exact .refl k s
  · next p _ =>
    have ha : Awake k s := .of_mstate hm (by decide)
    have placed : Keeps k s (jumpCursor p (s.onPath fun p => { p with speedSq := 0, motion := .rest })) :=
      (keeps_onPath (fun p => { p with speedSq := 0, motion := .rest }) rfl (.inl ha)).andThen ha fun ha =>
        keeps_jumpCursor ha p
    have cyc : (jumpCursor p (s.onPath fun p => { p with speedSq := 0, motion := .rest })).cyc = s.cyc :=
      jumpCursor_cyc _ _
    refine placed.andThen ha (fun ha => ?_) (by rw [cyc])
    refine .ite (fun _ => keeps_kerfStart ha) fun _ => (keeps_clearHold _).andThen ha fun ha =>
      keeps_pierceEntered ha fun hs => homing_none_of_ne hs ?_
    exact fun e => nomatch hm.symm.trans ((congrArg (·.mstate) cyc).symm.trans e)

theorem keeps_targetReached (s : State) : Keeps k s (targetReached s) := by
  refine .ite (fun h => keeps_backupReached ?_) fun _ => .refl k s
  simp only [backingUp, Bool.and_eq_true, beq_iff_eq] at h
  exact h.1.1.1

theorem keeps_rejoinDwellEnded (hl : k.lawful → FaultLaw s) : Keeps k s (rejoinDwellEnded s) := by
  unfold rejoinDwellEnded
  split
  · exact keeps_beginRejoin (awake_of_jet hl fun hr => by simp_all)
  all_goals exact .refl k s

theorem keeps_followBoundary (p : Pos) (s : State) : Keeps k s (followBoundary p s) := by
  unfold followBoundary
  split
  · exact .ite (fun _ => .refl k s) fun _ => keeps_followClass _ _
  · exact .refl k s

theorem alike_followClass (cls : SegClass) (s : State) : Alike s (followClass cls s) := by
  unfold followClass
  split
  · exact alike_enterJet_id _ s
  · exact alike_enterJet_id _ s
  · exact alike_enterJet_id _ s
  · exact alike_enterJet_id _ s
  · exact alike_enterJet_id _ s
  · exact ⟨rfl, rfl⟩

theorem alike_followBoundary (p : Pos) (s : State) : Alike s (followBoundary p s) := by
  unfold followBoundary
  split
  · split
    · exact ⟨rfl, rfl⟩
    · exact alike_followClass _ s
  · exact ⟨rfl, rfl⟩

theorem keeps_endRejoin (hm : s.cyc.mstate = .resuming) : Keeps k s (endRejoin s) :=
  (keeps_clearHold s).trans (keeps_enterRunning .cut (.of_mstate hm (by decide))
    (fun hs => homing_none_of_ne hs fun e => nomatch hm.symm.trans e) nofun)

theorem resuming_of_rejoining (h : rejoining s = true) : s.cyc.mstate = .resuming := by
  simp only [rejoining, Bool.and_eq_true, beq_iff_eq] at h
  exact h.1

theorem keeps_closePointPassed (s : State) : Keeps k s (closePointPassed s) := by
  unfold closePointPassed
  split
  · next m p g jc _ _ _ _ =>
    refine .ite (fun h => ?_) fun _ => .refl k s
    have hm : s.cyc.mstate = .resuming := resuming_of_rejoining (by simp_all)
    have ha : Awake k s := .of_mstate hm (by decide)
    refine .ite (fun _ => keeps_endRejoin hm) fun _ => ?_
    dsimp only
    generalize (if (justAhead s jc).seq = p.seq then (justAhead s jc).dist - p.dist else g.len - p.dist) = n
    have placed : Keeps k s (jumpCursor (justAhead s jc) (setSpeed (forwardSpeed s m g p.dist n) s)) :=
      (keeps_setSpeed ha _).andThen ha fun ha => keeps_jumpCursor ha _
    have alike : Alike s (followBoundary p (jumpCursor (justAhead s jc) (setSpeed (forwardSpeed s m g p.dist n) s))) :=
      (Alike.of_cyc (s := s) (jumpCursor_cyc (justAhead s jc) (setSpeed (forwardSpeed s m g p.dist n) s))).trans
        (alike_followBoundary _ _)
    exact (placed.trans (keeps_followBoundary p _)).trans (keeps_endRejoin (alike.1.trans hm))
  · exact .refl k s

end Sys2Proof.Proofs
end

section
/-! What the events of Z and of the pierce, homing and jogging, the input lines and a reset keep. -/

namespace Sys2Proof.Proofs

open Sys2Proof.Machine

variable {k : Scope} {s t u : State}

/-! ### Z events -/

theorem keeps_zPurposeDone (p : ZPurpose) (hr : s.cyc.mstate = .running) : Keeps k s (zPurposeDone p s) := by
  have ha : Awake k s := .of_mstate hr (by decide)
  cases p with
  | approach => exact keeps_approachArrived ha
  | reprobe => exact keeps_startDescent ha
  | pierceRise => exact keeps_enterPierce ha
  | pierceStep => exact keeps_pierceMoved ha
  | retract => exact keeps_contourDone hr

theorem keeps_zMoveCompleted (hl : k.lawful → FaultLaw s) : Keeps k s (zMoveCompleted s) := by
  unfold zMoveCompleted
  split
  · next p purpose hz =>
    have ha : Awake k s := awake_of_zmotion hl (by simp [hz])
    exact (keeps_zReaches p s).trans (keeps_zArrived fun u hu =>
      .ite (fun h => keeps_zPurposeDone _ (running_of_advancing h)) fun _ => keeps_settleRest (ha.alike hu))
  · next p hz =>
    have ha : Awake k s := awake_of_zmotion hl (by simp [hz])
    exact (keeps_zReaches p s).trans (keeps_zArrived fun u hu => keeps_settleRest (ha.alike hu))
  all_goals exact .refl k s

theorem keeps_zRested (hl : k.lawful → FaultLaw s) : Keeps k s (zRested s) := by
  unfold zRested
  split
  · next hz =>
    have ha : Awake k s := awake_of_zmotion hl (by simp [hz])
    exact (keeps_zRests s).andThen ha fun ha => .ite
      (fun _ => keeps_withCut fun _ _ _ _ => keeps_nameZMove ha _ _ fun _ hu => keeps_enterPierce (ha.alike hu))
      fun _ => keeps_settleRest ha
  · next hz => exact (keeps_zRests s).andThen (awake_of_zmotion hl (by simp [hz])) keeps_settleRest
  · next hz => exact (keeps_zRests s).andThen (awake_of_zmotion hl (by simp [hz])) keeps_settleRest
  all_goals exact .refl k s

theorem keeps_probeEnded (s : State) : Keeps k s (probeEnded s) := by
  unfold probeEnded
  split
  · exact (keeps_zReaches _ s).trans (keeps_holdCause _ _ _)
  all_goals exact .refl k s

theorem keeps_contactMade (hl : k.lawful → FaultLaw s) : Keeps k s (contactMade s) := by
  unfold contactMade
  split
  · next hz =>
    have ha : Awake k s := awake_of_zmotion hl (by simp [hz])
    have captured : Keeps k s (s.onAxis .z fun c => { c with latch := some (s.chan .z).encoder }) :=
      keeps_onAxis _ _ id
    have written := captured.andThen ha fun ha => keeps_cycMarks (fun c =>
      { c with surface := some (s.chan .z).encoder, suspension := true }) ⟨rfl, rfl, rfl, rfl, rfl⟩ rfl (.inl ha)
    exact (written.trans (keeps_modActive (fun r => { r with surfaceZ := some (s.chan .z).encoder }) fun _ => rfl)).andThen
      ha (fun ha => keeps_setZ _ (.inl ha)) (by rw [State.modActive_cyc]; rfl)
  all_goals exact .ite (fun _ => keeps_faultAction _ _) fun _ => .refl k s

theorem keeps_contactGone (s : State) : Keeps k s (contactGone s) :=
  keeps_cycMarks _ ⟨rfl, rfl, rfl, rfl, rfl⟩ rfl (.inr ⟨id, fun _ => rfl⟩)

/-! ### The band and the pierce timer -/

theorem keeps_bandHanded (ha : Awake k s) : Keeps k s (bandHanded s) := by
  refine .ite (fun _ => keeps_kerfDwell ha) fun _ => ?_
  split
  · exact keeps_static3 ha
  · exact keeps_static6 ha
  · exact keeps_creep3 ha
  · exact keeps_drilled3 ha
  · exact .refl k s

theorem keeps_bandEntered (ha : Awake k s) : Keeps k s (bandEntered s) := by
  unfold bandEntered
  split
  · exact (keeps_jetTimers ha (fun j => { j with settle := .stopped, dipWatch := j.state.watched }) rfl rfl rfl).andThen
      ha keeps_bandHanded
  · exact keeps_jetTimers ha _ rfl rfl rfl

theorem keeps_bandLost (ha : Awake k s) : Keeps k s (bandLost s) :=
  keeps_withSetup fun _ _ => .ite (fun _ => keeps_jetTimers ha _ rfl rfl rfl) fun _ => .refl k s

/-- In FAULT the jet is CLOSED, in which no band entry or loss counts. -/
theorem keeps_pfbChanged (hl : k.lawful → FaultLaw s) : Keeps k s (pfbChanged s) := by
  have formed : Keeps k s (s.onJet fun j => { j with bandIn := bandOf s s.jet.demand s.lines.pfb }) :=
    keeps_onJet _ .inl (.inr id) (fun _ => id) fun _ => id
  refine formed.trans (.ite (fun hb => ?_) fun _ => .refl _ _)
  have ha : Awake k (s.onJet fun j => { j with bandIn := bandOf s s.jet.demand s.lines.pfb }) :=
    (awake_of_jet hl fun hr => by simp [hr.1, JetState.banded] at hb).congr rfl
  exact .ite (fun _ => keeps_bandEntered ha) fun _ => .ite (fun _ => keeps_bandLost ha) fun _ => .refl _ _

theorem keeps_tLowEnded (hl : k.lawful → FaultLaw s) : Keeps k s (tLowEnded s) := by
  unfold tLowEnded
  split
  · next hp _ =>
    exact (keeps_stopPierceTimer (awake_of_jet hl fun hr => by simp_all)).andThen
      (awake_of_jet hl fun hr => by simp_all) keeps_static4
  · next hp _ =>
    exact (keeps_stopPierceTimer (awake_of_jet hl fun hr => by simp_all)).andThen
      (awake_of_jet hl fun hr => by simp_all) keeps_creep4
  · exact .refl k s

theorem keeps_rampEnded (hl : k.lawful → FaultLaw s) : Keeps k s (rampEnded s) := by
  unfold rampEnded
  split
  · exact keeps_static5 (awake_of_jet hl fun hr => by simp_all)
  · next hm => exact keeps_creep5 (awake_of_jet hl fun hr => by simp_all) (active_ne_none_of_method hm)
  · exact .refl k s

theorem keeps_tDwellEnded (hl : k.lawful → FaultLaw s) : Keeps k s (tDwellEnded s) := by
  unfold tDwellEnded
  split
  · next hp _ =>
    exact (keeps_stopPierceTimer (awake_of_jet hl fun hr => by simp_all)).andThen
      (awake_of_jet hl fun hr => by simp_all) keeps_static7
  · next hp _ =>
    exact (keeps_stopPierceTimer (awake_of_jet hl fun hr => by simp_all)).andThen
      (awake_of_jet hl fun hr => by simp_all) keeps_drilled4
  · exact .refl k s

/-! ### Homing -/

theorem keeps_beginHoming (a : Axis) (hm : s.homing.axis ≠ none ∨ s.cyc.mstate = .homing) : Keeps k s (beginHoming a s) :=
  (keeps_onAxis a (fun c => { c with homed := false, speedSq := 0 }) nofun).trans
    (keeps_onHoming (fun h => { h with
      axis := some a, step := some (if s.lines.homes.get a then .clear else .seek), travel := 0, stop := .none })
      fun _ => hm)

theorem homingNow_axis {a : Axis} {x : AxisSetup} {st : HomingStep} (h : homingNow s = some (a, x, st)) :
    s.homing.axis = some a := by
  unfold homingNow at h
  split at h
  · next ha _ _ => simp_all
  · simp at h

/-- The homing of an axis ends in IDLE; an axis homes in HOMING alone, in which there is no contour. -/
theorem keeps_leaveHoming (ha : Awake k s) (hh : s.homing.axis ≠ none) : Keeps k s (leaveHoming s) := by
  have outside (hc : CycleLaw s) : s.cyc.mstate.inCycle = false := by
    rw [hc.2.2.2.1 hh]
    rfl
  have left : leaveHoming s = { s with
      homing := .reset, cyc := { s.cyc with mstate := .idle, phase := none }
      jet := s.jet.shut (bandAfter 0 { s with homing := .reset, cyc := { s.cyc with mstate := .idle, phase := none } }) } := by
    unfold leaveHoming
    rw [enterState_closed _ _ _ rfl, closeJet_shut _ rfl]
    rfl
  rw [left]
  refine ⟨rfl, fun _ => rfl, fun _ _ => id, id, id, id, id, fun hc => ?_, fun _ => id, fun _ h => absurd rfl h, fun _ => id, fun hl _ =>
    ⟨fun h => MachineState.noConfusion h, fun _ hm => absurd hm (ha hl)⟩⟩
  exact ⟨rfl, fun e => absurd (active_none_of_outside hc (outside hc)) e, by simp, fun e => absurd rfl e,
    fun (e : s.cyc.abortPending = true) => absurd (e.symm.trans (abort_false_of_outside hc (outside hc))) (by decide)⟩

/-- The one operation that sets a homed flag (R163). -/
theorem keeps_endHoming (a : Axis) (hk : k.homes) (ha : Awake k s) (hh : s.homing.axis ≠ none) :
    Keeps k s (endHoming a s) := by
  have homed : Keeps k s (s.onAxis a fun c => { c with homed := true, speedSq := 0 }) :=
    ⟨rfl, fun _ => rfl, fun h => absurd hk h, id, id, id, id, id, fun _ => id, id, fun _ => id, fun _ h => ⟨h, fun _ => id⟩⟩
  unfold endHoming
  refine homed.trans ?_
  dsimp only
  split
  · exact keeps_leaveHoming ha hh
  · next b rest _ =>
    exact (keeps_onHoming (fun h => { h with remaining := rest }) fun h => .inl h).trans (keeps_beginHoming b (.inl hh))

theorem keeps_giveUpHoming (s : State) : Keeps k s (giveUpHoming s) := keeps_onHoming _ .inl

theorem keeps_clearRested (s : State) : Keeps k s (clearRested s) := by
  unfold clearRested
  split
  · next a _ _ =>
    exact .ite (fun _ => (keeps_onAxis a (fun c => { c with speedSq := 0 }) id).trans (keeps_onHoming _ .inl))
      fun _ => .refl k s
  · exact .refl k s

theorem keeps_settleRested (hk : k.homes) (hl : k.lawful → FaultLaw s) : Keeps k s (settleRested s) := by
  unfold settleRested
  split
  · next a x h =>
    have hh : s.homing.axis ≠ none := by simp [homingNow_axis h]
    refine .ite (fun _ => .refl k s) fun _ => ?_
    split
    · exact keeps_endHoming a hk (awake_of_homing hl hh) hh
    · exact (keeps_onAxis a (fun c => { c with speedSq := 0 }) id).trans (keeps_onHoming _ .inl)
  · exact .refl k s

theorem keeps_returnRested (hk : k.homes) (hl : k.lawful → FaultLaw s) : Keeps k s (returnRested s) := by
  unfold returnRested
  split
  · next a x h =>
    have hh : s.homing.axis ≠ none := by simp [homingNow_axis h]
    exact .ite (fun _ => .refl k s) fun _ => (keeps_onAxis a _ id).andThen (awake_of_homing hl hh) fun ha =>
      keeps_endHoming a hk ha hh
  · exact .refl k s

theorem keeps_homingStopped (hl : k.lawful → FaultLaw s) : Keeps k s (homingStopped s) := by
  unfold homingStopped
  split
  · exact .refl k s
  · next a h =>
    have hh : s.homing.axis ≠ none := by simp [h]
    exact .ite (fun _ => (keeps_onAxis a (fun c => { c with speedSq := 0 }) id).andThen (awake_of_homing hl hh) fun ha =>
      keeps_leaveHoming ha hh) fun _ => .refl k s

theorem keeps_seekFailed (s : State) : Keeps k s (seekFailed s) := by
  unfold seekFailed
  split
  · next a x st h =>
    refine .ite (fun _ => .refl k s) fun _ => ?_
    exact (((keeps_onAxis a _ id).trans (keeps_onHoming _ .inl)).trans (keeps_raiseAlert _ _ _)).trans (keeps_giveUpHoming _)
  · exact .refl k s

/-! ### Jogging -/

/-- JOGGING is left for IDLE. -/
theorem keeps_enterIdle (hm : s.cyc.mstate = .jogging) : Keeps k s (enterState .idle none s) :=
  keeps_enterNoPhase _ (by decide) rfl (.inl (.of_mstate hm (by decide))) (by rw [hm]; rfl)
    fun hs _ => homing_none_of_ne hs (by rw [hm]; decide)

theorem keeps_endJog (s : State) : Keeps k s (endJog s) := by
  unfold endJog
  split
  · exact .refl k s
  · next a _ =>
    have ended : Keeps k s ((s.onAxis a fun c => { c with speedSq := 0 }).onJog fun _ => .reset) :=
      (keeps_onAxis a _ id).trans (keeps_onJog _)
    exact ended.trans (.ite (fun hm => keeps_enterIdle hm) fun _ => .ite
      (fun _ => (keeps_onAxis a Channel.track id).trans (keeps_retestCause _)) fun _ => .refl _ _)

theorem keeps_stopJog (s : State) : Keeps k s (stopJog s) := .ite (fun _ => keeps_onJog _) fun _ => .refl k s

theorem keeps_startJog (a : Axis) (d : Side) (v : Nat) (s : State) : Keeps k s (startJog a d v s) := by
  have replaced : Keeps k s (s.onJog fun _ =>
      { axis := some a, kind := some .continuous, direction := some d, speed := some v, target := none
        keep := .running (jogKeepOf s), stopping := false, slowing := false }) := keeps_onJog _
  unfold startJog
  refine replaced.trans ?_
  dsimp only
  split
  · exact .refl _ _
  · exact .ite (fun _ => keeps_endJog _) fun _ => .refl _ _

theorem keeps_startStep (a : Axis) (distance : Int) (s : State) : Keeps k s (startStep a distance s) :=
  (keeps_onJog _).trans (.ite (fun _ => keeps_endJog _) fun _ => .refl _ _)

theorem keeps_keepExpired (s : State) : Keeps k s (keepExpired s) := by
  unfold keepExpired
  split
  · exact .refl k s
  · exact keeps_onJog _

theorem keeps_jogRested (s : State) : Keeps k s (jogRested s) := by
  unfold jogRested
  split
  · exact .refl k s
  · next a _ =>
    refine .ite (fun _ => keeps_endJog s) fun _ => ?_
    split
    · exact (keeps_onAxis a _ id).trans (keeps_endJog _)
    · exact (keeps_onAxis a _ id).trans (keeps_endJog _)
    · exact .refl k s

/-! ### Step pulses move no homed flag -/

@[simp] theorem stepped_homed (d : Side) (v : Nat) (c : Channel) : (c.stepped d v).homed = c.homed := rfl

@[simp] theorem coast_homed (acc : Nat) (c : Channel) : (coast acc c).homed = c.homed := by
  unfold coast
  split <;> rfl

@[simp] theorem stepToward_homed (acc vMax : Nat) (p : Int) (c : Channel) : (stepToward acc vMax p c).homed = c.homed := by
  unfold stepToward
  split <;> rfl

theorem keepIn_homed (w : Option AxisSetup) (c c' : Channel) (h : c'.homed = c.homed) : (keepIn w c c').homed = c.homed := by
  unfold keepIn
  split
  · exact h
  · split
    · rfl
    · exact h

@[simp] theorem stepContinuous_homed (acc vMax : Nat) (d : Side) (w : Option AxisSetup) (c : Channel) :
    (stepContinuous acc vMax d w c).homed = c.homed := by
  unfold stepContinuous
  split
  · simp
  · split <;> rfl

@[simp] theorem stepToTarget_homed (acc vMax : Nat) (p : Int) (slowing : Bool) (c : Channel) :
    (stepToTarget acc vMax p slowing c).1.homed = c.homed := by
  unfold stepToTarget
  split
  · simp
  · split <;> simp

theorem keeps_jogPulse (a : Axis) (s : State) : Keeps k s (jogPulse a s) := by
  unfold jogPulse
  refine .ite (fun _ => keeps_onAxis a _ fun h => ?_) fun _ => ?_
  · rwa [keepIn_homed _ _ _ (coast_homed _ _)] at h
  · split
    · refine (keeps_onAxis a _ fun h => ?_).trans (keeps_onJog _)
      rwa [keepIn_homed _ _ _ (stepToTarget_homed _ _ _ _ _)] at h
    · refine keeps_onAxis a _ fun h => ?_
      rwa [keepIn_homed _ _ _ (stepContinuous_homed _ _ _ _ _)] at h
    · exact .refl k s

theorem keeps_homingPulse (a : Axis) (x : AxisSetup) (st : HomingStep) (s : State) :
    Keeps k s (homingPulse a x st s) := by
  unfold homingPulse
  refine .ite (fun _ => .refl k s) fun _ => ?_
  dsimp only
  have moved (f : Channel → Channel) (hf : (f (s.chan a)).homed = (s.chan a).homed) : Keeps k s (s.onAxis a f) :=
    keeps_onAxis a f fun h => hf ▸ h
  refine (moved _ ?_).trans (.ite (fun _ => keeps_onHoming _ .inl) fun _ => .refl _ _)
  split
  · simp
  · cases st <;> simp

theorem keeps_zPulse (m : MachineSetup) (s : State) : Keeps k s (zPulse m s) := by
  have moved (f : Channel → Channel) (hf : (f (s.chan .z)).homed = (s.chan .z).homed) : Keeps k s (s.onAxis .z f) :=
    keeps_onAxis .z f fun h => hf ▸ h
  unfold zPulse
  refine moved _ ?_
  cases s.zmotion with
  | rest => rfl
  | stopMove p =>
    dsimp only
    split
    · rfl
    · exact coast_homed _ _
  | moving _ _ | probing _ => exact stepToward_homed _ _ _ _
  | contactStop | stopProbe => exact coast_homed _ _

theorem keeps_stepPulsed (a : Axis) (s : State) : Keeps k s (stepPulsed a s) := by
  have inCycle (m : MachineState) (hm : s.cyc.mstate = m) (hc : m.inCycle = true) :
      Keeps k s (match a with
        | .z => followingCheck .z (withSetup zPulse s)
        | .x | .y => followingCheck a (pathPulse a s)) := by
    have ha : Awake k s := .of_mstate hm (by rintro rfl; simp [MachineState.inCycle] at hc)
    cases a
    · exact (keeps_pathPulse .x ha).trans (keeps_followingCheck _ _)
    · exact (keeps_pathPulse .y ha).trans (keeps_followingCheck _ _)
    · exact (keeps_withSetup fun m _ => keeps_zPulse m s).trans (keeps_followingCheck _ _)
  have jogging : Keeps k s (if s.jog.axis = some a then followingCheck a (jogPulse a s) else s) :=
    .ite (fun _ => (keeps_jogPulse a s).trans (keeps_followingCheck _ _)) fun _ => .refl k s
  unfold stepPulsed
  split
  · next hm => exact inCycle _ hm rfl
  · next hm => exact inCycle _ hm rfl
  · next hm => exact inCycle _ hm rfl
  · next hm => exact inCycle _ hm rfl
  · split
    · exact .ite (fun _ => (keeps_homingPulse _ _ _ s).trans (keeps_followingCheck _ _)) fun _ => .refl k s
    · exact .refl k s
  · exact jogging
  · exact jogging
  · exact .refl k s
  · exact .refl k s

/-! ### The input lines -/

theorem keeps_endEscapeJog (s : State) : Keeps k s (endEscapeJog s) := .ite (fun _ => keeps_endJog s) fun _ => .refl k s

theorem keeps_estopAsserted (s : State) : Keeps k s (estopAsserted s) :=
  ((keeps_endEscapeJog s).trans (keeps_faultAction _ _)).trans (keeps_retestCause _)

theorem keeps_limitAsserted (a : Axis) (d : Side) (s : State) : Keeps k s (limitAsserted a d s) := by
  have ended : Keeps k s (if s.jog.axis = some a then endEscapeJog s else s) :=
    .ite (fun _ => keeps_endEscapeJog s) fun _ => .refl k s
  exact .ite (fun _ => .refl k s) fun _ => (ended.trans (keeps_faultAction _ _)).trans (keeps_retestCause _)

theorem keeps_homeEdge (a : Axis) (s : State) : Keeps k s (homeEdge a s) := by
  unfold homeEdge
  split
  · exact .ite (fun _ => (keeps_onAxis a _ id).trans (keeps_onHoming _ .inl)) fun _ => .refl k s
  · exact .refl k s

theorem keeps_homeCleared (a : Axis) (s : State) : Keeps k s (homeCleared a s) := by
  unfold homeCleared
  split
  · exact .ite (fun _ => keeps_onHoming _ .inl) fun _ => .refl k s
  · exact .refl k s

theorem keeps_encoderCounted (a : Axis) (up : Bool) (s : State) : Keeps k s (encoderCounted a up s) :=
  (keeps_onAxis a _ id).trans (.ite (fun _ => keeps_onAxis a _ id) fun _ => keeps_followingCheck _ _)

/-! ### The override and the key switch -/

/-- The effective override that the key mode gives (R77). -/
theorem cap_eq (m : KeyMode) (v : Nat) : m.cap v = if m = .setup then min v 50 else v := by cases m <;> rfl

/-- A requested override and a key mode, with the effective override that they give. -/
theorem keeps_formOverride (f : Ports → Ports) (v : Nat) (hv : 10 ≤ s.cyc.reqOverride ∧ s.cyc.reqOverride ≤ 100 → 10 ≤ v ∧ v ≤ 100)
    (hp : k.serves ∨ f s.ports = s.ports) (hl : k.lawful → FaultLaw s) :
    Keeps k s (formOverride ((s.onPorts f).onCyc fun c => { c with reqOverride := v })) := by
  have formed : Keeps k s (((s.onPorts f).onCyc fun c => { c with reqOverride := v }).onPath fun p =>
      { p with override := (f s.ports).keyMode.cap v }) :=
    ⟨rfl, fun n => hp.resolve_left n, fun _ _ => id, fun ⟨hlow, hhigh, _⟩ =>
      ⟨(hv ⟨hlow, hhigh⟩).1, (hv ⟨hlow, hhigh⟩).2, cap_eq _ _⟩, id, id, id, id, fun _ => id, id, fun _ => id, fun _ h => ⟨h, fun _ => id⟩⟩
  exact formed.trans (keeps_clampToEnvelope (formed.lawful hl))

theorem keeps_keyActs (m : KeyMode) (s : State) : Keeps k s (keyActs m s) := by
  unfold keyActs
  split
  · exact .refl k s
  · exact keeps_holdCause _ _ _
  · split
    · exact keeps_giveUpHoming s
    · exact keeps_stopJog s
    · exact keeps_stopJog s
    all_goals exact .refl k s

theorem keeps_keyRead (hk : k.serves) (hl : k.lawful → FaultLaw s) : Keeps k s (keyRead s) := by
  unfold keyRead
  split
  · exact .refl k s
  · next m _ =>
    exact .ite (fun _ => .refl k s) fun _ =>
      (keeps_formOverride (fun p => { p with keyMode := m }) s.cyc.reqOverride id (.inl hk) hl).trans (keeps_keyActs m _)

/-! ### Reset -/

@[simp] theorem statusOf_resetWith (l : Lines) (queue : List Instr) (c : Fin Config.contours) :
    (State.resetWith l queue).statusOf c = none := by
  simp [State.statusOf, State.contour?, State.resetWith, ProgramStore.reset]

theorem sequenceLaw_resetWith (l : Lines) (queue : List Instr) : SequenceLaw (State.resetWith l queue) := by
  simp [SequenceLaw, State.resetWith, ProgramStore.reset, Config.maxSequence]

theorem loadingLaw_resetWith (l : Lines) (queue : List Instr) : LoadingLaw (State.resetWith l queue) := by
  simp [LoadingLaw]

theorem cycleLaw_resetWith (l : Lines) (queue : List Instr) : CycleLaw (State.resetWith l queue) := by
  simp [CycleLaw, State.resetWith, CycleController.reset, Homing.reset, MachineState.inCycle]

theorem runListLaw_resetWith (l : Lines) (queue : List Instr) : RunListLaw (State.resetWith l queue) := by
  have none_sealed (c) : (State.resetWith l queue).statusOf c ≠ some .sealed := by simp
  have none_active (c) : (State.resetWith l queue).statusOf c ≠ some .active := by simp
  exact ⟨.nil, fun c => ⟨nofun, fun h => absurd h (none_sealed c)⟩, fun c => ⟨nofun, fun h => absurd h (none_active c)⟩⟩

theorem overrideLaw_resetWith (l : Lines) (queue : List Instr) : OverrideLaw (State.resetWith l queue) := by
  simp [OverrideLaw, State.resetWith, CycleController.reset, ProfileGenerator.reset, cap_eq]

theorem recordLaw_resetWith (l : Lines) (queue : List Instr) : RecordLaw (State.resetWith l queue) := by
  simp [RecordLaw, State.resetWith, Jet.reset]

theorem faultLaw_resetWith (l : Lines) (queue : List Instr) : FaultLaw (State.resetWith l queue) := by
  simp [FaultLaw, State.resetWith, CycleController.reset]

/-- A reset part meets every law but the one on its queue, which stays (R194, entry 35). -/
theorem keeps_resetWith (hv : k.serves) (hk : k.leaves) (l : Lines) (s : State) :
    Keeps k s (State.resetWith l s.pending) where
  pending := rfl
  ports n := absurd hv n
  homed _ a h := by
    have clear : ((State.resetWith l s.pending).axes.get a).homed = false := by cases a <;> rfl
    simp [clear] at h
  override _ := overrideLaw_resetWith l _
  store _ := Nat.zero_le _
  sequence _ := sequenceLaw_resetWith l _
  loading _ := loadingLaw_resetWith l _
  cycle _ := cycleLaw_resetWith l _
  runList _ _ := runListLaw_resetWith l _
  valves _ h := absurd rfl h
  record _ _ := recordLaw_resetWith l _
  fault _ _ := ⟨faultLaw_resetWith l _, fun h => absurd hk h⟩

theorem keeps_reportFound (s : State) : Keeps k s (reportFound s) := by
  unfold reportFound
  have reported : Keeps k s (if s.lines.estop then faultAction .estop s else s) :=
    .ite (fun _ => keeps_faultAction _ _) fun _ => .refl k s
  exact reported.trans (keeps_foldl _ (fun u p => .ite (fun _ => keeps_faultAction _ u) fun _ => .refl k u) limitOrder _)

theorem keeps_resetNow (hv : k.serves) (hk : k.leaves) (l : Lines) (s : State) : Keeps k s (resetNow l s) :=
  (keeps_resetWith hv hk l s).trans (keeps_reportFound _)

theorem keeps_resetLines (hv : k.serves) (hk : k.leaves) (l : Lines) (s : State) : Keeps k s (resetLines l s) :=
  .ite (fun _ => keeps_resetWith hv hk l s) fun _ => .ite (fun _ => keeps_resetNow hv hk l s) fun _ => keeps_onLines _

end Sys2Proof.Proofs
end

section
/-! What each request keeps, and what every command keeps: the laws of the tier 3 statements are read off. -/

namespace Sys2Proof.Proofs

open Sys2Proof.Machine

variable {k : Scope} {s t u : State}

/-- An owning block's answer keeps the laws: in its next state, and in what follows the reply, which changes its port
alone. -/
def AnswerKeeps (k : Scope) (s : State) (a : Answer) : Prop :=
  Keeps k s a.next ∧ ∀ u, u.cyc = a.next.cyc → (k.lawful → FaultLaw u) → Keeps k u (a.after u)

theorem answerKeeps_of_next {st : Status} {items : List Item} (h : Keeps k s t) : AnswerKeeps k s ⟨st, items, t, id⟩ :=
  ⟨h, fun u _ _ => .refl k u⟩

theorem answerKeeps_refused (st : Status) (s : State) : AnswerKeeps k s (refused st s) := answerKeeps_of_next (.refl k s)

theorem answerKeeps_refusedAt (st : Status) (i : Nat) (s : State) : AnswerKeeps k s (refusedAt st i s) :=
  answerKeeps_of_next (.refl k s)

theorem answerKeeps_accepted {items : List Item} (h : Keeps k s t) : AnswerKeeps k s (accepted items t) :=
  answerKeeps_of_next h

theorem AnswerKeeps.ite {c : Prop} [Decidable c] {a b : Answer} (ha : c → AnswerKeeps k s a) (hb : ¬ c → AnswerKeeps k s b) :
    AnswerKeeps k s (if c then a else b) := by
  split
  · next h => exact ha h
  · next h => exact hb h

/-! ### The Setup Store and the alert record -/

theorem answerKeeps_releaseAlert (s : State) : AnswerKeeps k s (answerReleaseAlert s) := by
  refine answerKeeps_accepted (keeps_setAlert _ fun _ r hr => ?_)
  unfold releasedAlert at hr
  split at hr
  · simp at hr
  · split at hr
    · obtain rfl := Option.some.inj hr
      simp [Counted, refilled]
    · simp at hr

theorem answerKeeps_proposeSet (n : Nat) (f : ProcessSet) (s : State) : AnswerKeeps k s (answerProposeSet n f s) := by
  unfold answerProposeSet
  split
  · exact answerKeeps_refusedAt _ _ s
  · split
    · exact answerKeeps_refusedAt _ _ s
    · exact answerKeeps_refusedAt _ _ s
    · exact answerKeeps_refusedAt _ _ s
    · exact .ite (fun _ => answerKeeps_refused _ s) fun _ => answerKeeps_accepted (keeps_onSetups _)

theorem answerKeeps_judgeProposal (n i : Nat) (items : List Item) (take : ProcessSet → SetContent) (s : State) :
    AnswerKeeps k s (judgeProposal n i items take s) := by
  unfold judgeProposal
  split
  · exact answerKeeps_refusedAt _ _ s
  · dsimp only
    split
    · exact answerKeeps_refused _ s
    · exact answerKeeps_refused _ s
    · exact .ite (fun _ => answerKeeps_refused _ s) fun _ => answerKeeps_accepted (keeps_onSetups _)

/-- The homed flags of a new Machine Setup are among those that stood (R181). -/
theorem keeps_installSetup (m : MachineSetup) (hm : s.cyc.mstate = .unconfigured ∨ s.cyc.mstate = .idle) :
    Keeps k s (installSetup m s) := by
  have flags : Keeps k s ((s.onSetups fun u => { u with setup := some m }).onAxes fun p =>
      ⟨{ p.x with homed := keepsHomed s.setups.setup m .x p.x }, { p.y with homed := keepsHomed s.setups.setup m .y p.y },
        { p.z with homed := keepsHomed s.setups.setup m .z p.z }⟩) :=
    (keeps_onSetups fun u => { u with setup := some m }).trans
      (keeps_onAxes _ fun a h => by cases a <;> simp_all [PerAxis.get, keepsHomed])
  have ha : Awake k s := hm.elim (fun e => .of_mstate e (by decide)) fun e => .of_mstate e (by decide)
  have outside : s.cyc.mstate.inCycle = false := by rcases hm with e | e <;> rw [e] <;> rfl
  unfold installSetup
  refine ((flags.trans (keeps_cycMarks (fun c => { c with surface := some m.nominalSurface }) ⟨rfl, rfl, rfl, rfl, rfl⟩ rfl
    (.inr ⟨id, id⟩))).trans (keeps_enterNoPhase .idle (by decide) rfl (.inl (ha.congr rfl)) outside fun hs _ => ?_)).trans
    (keeps_testWear _)
  exact homing_none_of_ne hs fun e => hm.elim (fun e' => nomatch e'.symm.trans e) fun e' => nomatch e'.symm.trans e

theorem answerKeeps_writeSetup (m : MachineSetup) (s : State) : AnswerKeeps k s (answerWriteSetup m s) := by
  unfold answerWriteSetup
  refine .ite (fun _ => answerKeeps_refused _ s) fun hm => .ite (fun _ => answerKeeps_refused _ s) fun _ => ?_
  split
  · exact answerKeeps_refusedAt _ _ s
  · exact answerKeeps_refusedAt _ _ s
  · refine ⟨keeps_installSetup m ?_, fun u _ _ => keeps_followingCheckAll u⟩
    simp only [ne_eq, Bool.and_eq_true, decide_eq_true_eq, not_and, not_not] at hm
    exact Decidable.or_iff_not_imp_left.mpr hm

theorem answerKeeps_setAccumulators (seconds pierces : Nat)
    (h : k.fits → seconds < 4294967296 ∧ pierces < 4294967296) (s : State) :
    AnswerKeeps k s (answerSetAccumulators seconds pierces s) := by
  refine answerKeeps_accepted ((keeps_onJet (fun j => { j with jetTime := seconds * 1000, pierceCount := pierces }) .inl
    (.inr id) (fun hf _ => ?_) fun hf _ => ?_).trans (keeps_testWear _))
  · have := (h hf).1
    simp only [Config.maxJetTime]
    omega
  · exact Nat.le_of_lt_succ (h hf).2

/-! ### The Program Store -/

theorem loading_none_iff : s.loading = none ↔ ∀ c, s.statusOf c ≠ some .loading := by
  simp [State.loading, List.find?_eq_none]

/-- A FREE record becomes LOADING where no other one is (R3, R5). -/
theorem keeps_declared {c : Fin Config.contours} {r : Contour} (hr : r.status = .loading) (hl : s.loading = none)
    (hfree : s.contour? c = none) : Keeps k s (s.setContour c (some r)) := by
  have status (d) : (s.setContour c (some r)).statusOf d = if d = c then some .loading else s.statusOf d := by
    rw [statusOf_setContour, Option.map_some, hr]
  have free : s.statusOf c = none := by simp [State.statusOf, hfree]
  refine keeps_onProg _ id id (fun _ a b ha hb => ?_) fun _ ⟨hnodup, hsealed, hactive⟩ => ⟨hnodup, fun d => ?_, fun d => ?_⟩
  · have only (d) (h : (s.setContour c (some r)).statusOf d = some .loading) : d = c := by
      by_contra hne
      rw [status, if_neg hne] at h
      exact loading_none_iff.mp hl d h
    rw [only a ha, only b hb]
  · refine (hsealed d).trans ?_
    change _ ↔ (s.setContour c (some r)).statusOf d = _
    rw [status]
    split
    · next e => simp [e, free]
    · rfl
  · refine (hactive d).trans ?_
    change _ ↔ (s.setContour c (some r)).statusOf d = _
    rw [status]
    split
    · next e => simp [e, free]
    · rfl

theorem answerKeeps_declare (c n q m v : Nat) (s : State) : AnswerKeeps k s (answerDeclare c n q m v s) := by
  unfold answerDeclare
  refine .ite (fun _ => answerKeeps_refused _ s) fun _ => ?_
  split
  · unfold declareChecked
    refine .ite (fun _ => answerKeeps_refused _ s) fun hl => .ite (fun _ => answerKeeps_refused _ s) fun hfree => ?_
    split
    · exact .ite (fun _ => answerKeeps_refused _ s) fun _ =>
        answerKeeps_accepted (keeps_declared rfl (by simpa using hl) (by simpa using hfree))
    · exact answerKeeps_refused _ s
    · exact answerKeeps_refused _ s
    · exact answerKeeps_refused _ s
  · exact answerKeeps_refusedAt _ _ s

/-! ### APPEND -/

theorem newSegments_seq (c : Fin Config.contours) (n : Nat) (kept : List (SegClass × Computed)) :
    (newSegments c n kept).map (·.seq) = List.range' n kept.length := by
  induction kept generalizing n with
  | nil => rfl
  | cons e kept ih => simp [newSegments, ih, List.range'_succ]

theorem newSegments_length (c : Fin Config.contours) (n : Nat) (kept : List (SegClass × Computed)) :
    (newSegments c n kept).length = kept.length := by
  simpa using congrArg List.length (newSegments_seq c n kept)

/-- Segments with the next numbers go to the newest end. -/
theorem keeps_appendSegments (new : List Segment) (hseq : new.map (·.seq) = List.range' s.prog.nextSeq new.length)
    (hroom : new.length ≤ s.freeSlots)
    (hnum : s.prog.nextSeq + new.length ≤ Config.maxSequence + 1) :
    Keeps k s (s.onProg fun p => { p with segments := p.segments ++ new, nextSeq := p.nextSeq + new.length }) := by
  refine keeps_onProg _ (fun hs => ?_) (fun ⟨hpair, hrange, hlow, _⟩ => ⟨?_, fun g hg => ?_, ?_, hnum⟩) id fun _ => id
  · simp only [StoreLaw, State.onProg_prog, List.length_append]
    unfold StoreLaw State.freeSlots at *
    omega
  · simp only [State.onProg_prog, List.map_append, hseq, List.pairwise_append]
    refine ⟨hpair, List.pairwise_lt_range', fun a ha b hb => ?_⟩
    obtain ⟨g, hg, rfl⟩ := List.mem_map.mp ha
    have below := (hrange g hg).2
    have above := (List.mem_range'_1.mp hb).1
    omega
  · simp only [State.onProg_prog, List.mem_append] at hg ⊢
    obtain hg | hg := hg
    · have old := hrange g hg
      omega
    · have fresh := List.mem_range'_1.mp (hseq ▸ List.mem_map_of_mem hg)
      omega
  · simp only [State.onProg_prog]
    omega

theorem modContour_segments (c : Fin Config.contours) (f : Contour → Contour) (s : State) :
    (s.modContour c f).prog.segments = s.prog.segments ∧ (s.modContour c f).prog.nextSeq = s.prog.nextSeq := by
  unfold State.modContour
  split <;> exact ⟨rfl, rfl⟩

/-- The kept entries go to the newest end under the next numbers (R20, R32). -/
theorem keeps_storeSegments (c : Fin Config.contours) (kept : List (SegClass × Computed))
    (hroom : kept.length ≤ s.freeSlots)
    (hnum : s.prog.nextSeq + kept.length ≤ Config.maxSequence + 1) :
    Keeps k s (storeSegments c kept s) := by
  have length := newSegments_length c s.prog.nextSeq kept
  have counted : Keeps k s (s.modContour c fun r => { r with
      stored := r.stored + kept.length
      jets := r.jets + ((newSegments c s.prog.nextSeq kept).filter fun g => g.cls.isJet).length }) :=
    keeps_modContour c _ fun _ => rfl
  have same := modContour_segments c (fun r => { r with
      stored := r.stored + kept.length
      jets := r.jets + ((newSegments c s.prog.nextSeq kept).filter fun g => g.cls.isJet).length }) s
  have appended := counted.trans (keeps_appendSegments (newSegments c s.prog.nextSeq kept)
    (by rw [same.2, length, newSegments_seq]) (by rwa [State.freeSlots, same.1, length]) (by rwa [same.2, length]))
  rwa [length] at appended

theorem answerKeeps_append (c : Nat) (es : List Entry) (s : State) : AnswerKeeps k s (answerAppend c es s) := by
  unfold answerAppend
  split
  · exact answerKeeps_refusedAt _ _ s
  · split
    · refine .ite (fun _ => answerKeeps_refused _ s) fun _ => ?_
      split
      · exact answerKeeps_refusedAt _ _ s
      · unfold appendKept
        refine .ite (fun _ => answerKeeps_refused _ s) fun _ => .ite (fun _ => answerKeeps_of_next (.refl k s)) fun h => ?_
        simp only [Bool.or_eq_true, decide_eq_true_eq, not_or, not_lt] at h
        exact answerKeeps_accepted (keeps_storeSegments _ _ h.1 (by omega))
    · exact answerKeeps_refused _ s

/-! ### SEAL and the clearing of contours -/

theorem sealContour_eq (c : Fin Config.contours) (r : Contour) (f : ProcessSet) (m : MachineSetup) (s : State) :
    sealContour c r f m s = s.onProg fun _ => (sealContour c r f m s).prog := by
  unfold sealContour State.modContour
  dsimp only
  split <;> rfl

theorem sealContour_store (c : Fin Config.contours) (r : Contour) (f : ProcessSet) (m : MachineSetup) (s : State) :
    (sealContour c r f m s).prog.segments.map (·.seq) = s.prog.segments.map (·.seq)
      ∧ (sealContour c r f m s).prog.runList = s.prog.runList ++ [c]
      ∧ (sealContour c r f m s).prog.nextSeq = s.prog.nextSeq := by
  have planned (g : Segment → Segment) (hg : ∀ x, (g x).seq = x.seq) (l : List Segment) :
      (l.map g).map (·.seq) = l.map (·.seq) := by
    rw [List.map_map]
    exact List.map_congr_left fun x _ => hg x
  unfold sealContour State.modContour
  dsimp only
  split <;> exact ⟨planned _ (fun x => by split <;> rfl) _, rfl, rfl⟩

theorem sealContour_statusOf (c d : Fin Config.contours) (r : Contour) (f : ProcessSet) (m : MachineSetup) (s : State) :
    (sealContour c r f m s).statusOf d = if d = c then (s.contour? c).map fun _ => .sealed else s.statusOf d := by
  unfold sealContour
  rw [statusOf_modContour]
  rfl

/-- A LOADING contour becomes SEALED at the tail of the Run List (R7). -/
theorem keeps_sealContour {c : Fin Config.contours} {r : Contour} (f : ProcessSet) (m : MachineSetup)
    (hc : s.contour? c = some r) (hr : r.status = .loading) : Keeps k s (sealContour c r f m s) := by
  obtain ⟨hseq, hrun, hnext⟩ := sealContour_store c r f m s
  have status (d) : (sealContour c r f m s).statusOf d = if d = c then some .sealed else s.statusOf d := by
    rw [sealContour_statusOf, hc]
    rfl
  have loading : s.statusOf c = some .loading := by simp [State.statusOf, hc, hr]
  rw [sealContour_eq]
  generalize sealContour c r f m s = u at *
  refine keeps_onProg _ (fun hs => ?_) (fun ⟨hpair, hrange, hlow, hhigh⟩ => ⟨by rwa [State.onProg_prog, hseq], fun g hg => ?_,
    by rwa [State.onProg_prog, hnext], by rwa [State.onProg_prog, hnext]⟩)
    (fun hs a b ha hb => ?_) fun _ ⟨hnodup, hsealed, hactive⟩ => ?_
  · have := congrArg List.length hseq
    simp only [List.length_map] at this
    simpa [StoreLaw, this] using hs
  · rw [State.onProg_prog] at hg ⊢
    obtain ⟨g', hg', e⟩ := List.mem_map.mp (hseq ▸ List.mem_map_of_mem (f := fun g : Segment => g.seq) hg)
    rw [hnext, ← e]
    exact hrange g' hg'
  · have other (d) (h : u.statusOf d = some .loading) : s.statusOf d = some .loading := by
      rw [status] at h
      split at h
      · simp at h
      · exact h
    exact hs a b (other a ha) (other b hb)
  · have fresh : c ∉ s.prog.runList := fun h => by simp [(hsealed c).mp h] at loading
    refine ⟨?_, fun d => ?_, fun d => ?_⟩
    · rw [State.onProg_prog, hrun]
      exact hnodup.append (List.nodup_singleton c) (by simpa using fresh)
    · change d ∈ u.prog.runList ↔ u.statusOf d = _
      rw [hrun, status, List.mem_append, hsealed, List.mem_singleton]
      split
      · next e => simp [e]
      · next e => simp [e]
    · change s.cyc.active = _ ↔ u.statusOf d = _
      rw [status, hactive]
      split
      · next e => simp [e, loading]
      · rfl

theorem keeps_approachTaken (hl : k.lawful → FaultLaw s) : Keeps k s (approachTaken s) :=
  .ite (fun hp => keeps_beginApproach (awake_of_phase hl (by simp [hp]))) fun _ => .refl k s

theorem answerKeeps_sealAnswer (items : List Item) (h : Keeps k s t) : AnswerKeeps k s (sealAnswer items t) := by
  unfold sealAnswer
  refine .ite (fun hw => ⟨h.trans ?_, fun u _ => keeps_approachTaken⟩) fun _ => answerKeeps_accepted h
  simp only [inWait, Bool.and_eq_true, decide_eq_true_eq] at hw
  exact keeps_continuationWith (.of_mstate hw.1 (by decide)) (fun hs => active_none_of_wait hs hw.2)
    (fun hs => homing_none_of_ne hs (by simp [hw.1])) fun u _ => .refl k u

theorem answerKeeps_seal (c : Nat) (s : State) : AnswerKeeps k s (answerSeal c s) := by
  unfold answerSeal
  split
  · exact answerKeeps_refusedAt _ _ s
  · split
    · exact answerKeeps_refused _ s
    · next r hc =>
      refine .ite (fun _ => answerKeeps_refused _ s) fun hr => ?_
      split
      · split
        · exact answerKeeps_refusedAt _ _ s
        · exact answerKeeps_refused _ s
        · exact answerKeeps_sealAnswer _ (keeps_sealContour _ _ hc (by simpa using hr))
      · exact answerKeeps_refused _ s

theorem freeContour_statusOf (c d : Fin Config.contours) (s : State) :
    (freeContour c s).statusOf d = if d = c then none else s.statusOf d := by
  unfold freeContour
  rw [statusOf_setContour]
  rfl

theorem freeContour_eq (c : Fin Config.contours) (s : State) :
    freeContour c s = (s.onProg fun p =>
      { p with runList := p.runList.filter (· != c), contours := p.contours.set c none }).dropSegments
        fun g => g.contour == c := rfl

/-- A record that is not ACTIVE becomes FREE, and leaves the Run List with its segments (R14). -/
theorem keeps_freeContour (c : Fin Config.contours) (hc : s.statusOf c ≠ some .active) : Keeps k s (freeContour c s) := by
  have status (d) : (s.onProg fun p => { p with
      runList := p.runList.filter (· != c), contours := p.contours.set c none }).statusOf d
        = if d = c then none else s.statusOf d := freeContour_statusOf c d s
  have other (st : ContourStatus) (d) : (s.onProg fun p => { p with
      runList := p.runList.filter (· != c), contours := p.contours.set c none }).statusOf d = some st
        ↔ d ≠ c ∧ s.statusOf d = some st := by
    rw [status]
    split
    · next e => simp [e]
    · next e => simp [e]
  rw [freeContour_eq]
  refine (keeps_onProg (fun p => { p with runList := p.runList.filter (· != c), contours := p.contours.set c none }) id id
    (fun hs a b ha hb => hs a b ((other _ a).mp ha).2 ((other _ b).mp hb).2)
    fun _ ⟨hnodup, hsealed, hactive⟩ => ⟨hnodup.filter _, fun d => ?_, fun d => ?_⟩).trans (keeps_dropSegments _)
  · rw [other, State.onProg_prog, List.mem_filter, hsealed, and_comm, bne_iff_ne]
  · rw [other, State.onProg_cyc, hactive]
    refine ⟨fun e => ⟨fun hd => hc (hd ▸ e), e⟩, And.right⟩

theorem answerKeeps_clearContour (hl : k.lawful → FaultLaw s) (c : Nat) : AnswerKeeps k s (answerClearContour c s) := by
  unfold answerClearContour
  split
  · exact answerKeeps_refusedAt _ _ s
  · next c _ =>
    split
    · exact answerKeeps_refused _ s
    · next r hc =>
      refine .ite (fun _ => answerKeeps_refused _ s) fun hr => answerKeeps_accepted ?_
      have freed : Keeps k s (freeContour c s) := keeps_freeContour c (by simpa [State.statusOf, hc] using hr)
      refine freed.trans (.ite (fun hw => ?_) fun _ => .refl _ _)
      simp only [Bool.and_eq_true, decide_eq_true_eq] at hw
      obtain ⟨⟨-, hwait⟩, -⟩ := hw
      have phase : (freeContour c s).cyc.phase ≠ none := by simp [hwait]
      exact keeps_endCycle (awake_of_phase (freed.lawful hl) phase) (fun hs => active_none_of_wait hs hwait)
        fun hs => homing_none_of_inCycle hs (inCycle_of_phase hs phase)

/-- A Program Store without contours. -/
theorem statusOf_cleared (c : Fin Config.contours) (h : s.prog.contours = Vector.replicate Config.contours none) :
    s.statusOf c = none := by
  unfold State.statusOf State.contour?
  rw [h]
  simp

theorem keeps_clearedProgram (hm : s.cyc.mstate = .idle) :
    Keeps k s (s.onProg fun p => { p with contours := Vector.replicate _ none, runList := [], segments := [] }) := by
  have free (d) : (s.onProg fun p => { p with contours := Vector.replicate _ none, runList := [], segments := [] }).statusOf d
      = none := statusOf_cleared d rfl
  refine keeps_onProg _ (fun _ => Nat.zero_le _) (fun ⟨_, _, hnext⟩ => ⟨.nil, fun g hg => absurd hg List.not_mem_nil, hnext⟩)
    (fun _ a b ha => ?_) fun hs _ => ⟨.nil, fun d => ?_, fun d => ?_⟩
  · rw [free] at ha
    exact nomatch ha
  · rw [free]
    simp
  · rw [free, State.onProg_cyc, active_none_of_outside hs (by rw [hm]; rfl)]
    simp

theorem answerKeeps_clearProgram (s : State) : AnswerKeeps k s (answerClearProgram s) := by
  unfold answerClearProgram
  exact .ite (fun _ => answerKeeps_refused _ s) fun hm => answerKeeps_accepted (keeps_clearedProgram (by simpa using hm))

/-! ### The cycle -/

theorem awake_of_inCycle (h : s.cyc.mstate.inCycle = true) : Awake k s := fun _ e => by
  simp [e, MachineState.inCycle] at h

theorem answerKeeps_hold (s : State) : AnswerKeeps k s (answerHold s) := by
  unfold answerHold
  split
  · next hm =>
    exact .ite (fun _ => answerKeeps_accepted (.refl k s)) fun _ => .ite
      (fun _ => answerKeeps_accepted (keeps_cycMarks _ ⟨rfl, rfl, rfl, rfl, rfl⟩ rfl (.inl (.of_mstate hm (by decide)))))
      fun _ => answerKeeps_accepted (keeps_takeHold _ _ (.inl hm))
  · next hm => exact answerKeeps_accepted (.ite (fun _ => .refl k s) fun _ => keeps_takeHold _ _ (.inr hm))
  · exact answerKeeps_accepted (.refl k s)
  · exact answerKeeps_accepted (.refl k s)
  all_goals exact answerKeeps_refused _ s

/-- The end of a cycle in phase WAIT, which has no contour. -/
theorem keeps_endCycle_wait (hc : s.cyc.mstate.inCycle = true) (hw : s.cyc.phase = some .wait) : Keeps k s (endCycle s) :=
  keeps_endCycle (awake_of_inCycle hc) (fun hs => active_none_of_wait hs hw) fun hs => homing_none_of_inCycle hs hc

theorem answerKeeps_cycleStop (s : State) : AnswerKeeps k s (answerCycleStop s) := by
  unfold answerCycleStop
  refine .ite (fun _ => answerKeeps_refused _ s) fun hc => .ite (fun hw => answerKeeps_accepted ?_) fun _ =>
    answerKeeps_accepted (keeps_cycMarks _ ⟨rfl, rfl, rfl, rfl, rfl⟩ rfl (.inr ⟨id, id⟩))
  exact keeps_endCycle_wait (by simpa using hc) hw

theorem keeps_abortCycle (hc : s.cyc.mstate.inCycle = true) : Keeps k s (abortCycle s) := by
  refine .ite (fun _ => .refl k s) fun _ => ?_
  have ha : Awake k s := awake_of_inCycle hc
  have marked : Keeps k s (s.onCyc fun c => { c with abortPending := true }) := by
    refine ⟨rfl, fun _ => rfl, fun _ _ => id, id, id, id, id, fun ⟨h1, h2, h3, h4, _⟩ => ⟨h1, h2, h3, h4, fun _ => hc⟩, fun _ => id, id,
      fun _ => id, fun hl _ => ⟨fun hm => absurd hm (ha hl), fun _ => id⟩⟩
  have awake {u : State} (h : u.cyc.mstate = s.cyc.mstate) : Awake k u := ha.congr h
  refine (marked.trans (keeps_closeJet _)).trans ((keeps_stopMotion (awake ?_)).trans (keeps_settleRest (awake ?_)))
  · rw [closeJet_cyc]
    rfl
  · rw [stopMotion_eq, closeJet_cyc]
    rfl

theorem keeps_abortEffect (s : State) : Keeps k s (abortEffect s) := by
  have moving (m : MachineState) (hm : s.cyc.mstate = m) (hc : m.inCycle = true) :
      Keeps k s (if s.cyc.phase = some .wait then endCycle s else abortCycle s) :=
    .ite (fun hw => keeps_endCycle_wait (hm ▸ hc) hw) fun _ => keeps_abortCycle (hm ▸ hc)
  unfold abortEffect
  split
  · next hm => exact moving _ hm rfl
  · next hm => exact moving _ hm rfl
  · next hm => exact moving _ hm rfl
  · next hm =>
    have hc : s.cyc.mstate.inCycle = true := by rw [hm]; rfl
    exact .ite (fun hw => keeps_endCycle_wait hc hw) fun _ => keeps_abandonByAbort (awake_of_inCycle hc) (.inr hc)
  · exact keeps_giveUpHoming s
  · exact keeps_stopJog s
  all_goals exact .refl k s

theorem modContour_prog (c : Fin Config.contours) (f : Contour → Contour) (s : State) :
    (s.modContour c f).prog = match s.prog.contours[c] with
      | none => s.prog
      | some r => { s.prog with contours := s.prog.contours.set c (some (f r)) } := by
  unfold State.modContour State.contour?
  split
  · next h => rw [h]
  · next h => rw [h]; rfl

theorem headTaken_prog (c : Fin Config.contours) (rest : List (Fin Config.contours)) (h : u.prog = s.prog) :
    (headTaken c rest u).prog = (headTaken c rest s).prog := by
  rw [headTaken, headTaken, modContour_prog, modContour_prog, State.onProg_prog, State.onProg_prog, h]

/-- A contour is taken alike from every machine state and phase. -/
theorem takeContour_fromState (m : MachineState) (ph : Option Phase) (c : Fin Config.contours)
    (rest : List (Fin Config.contours)) (s : State) :
    takeContour c rest { s with cyc := { s.cyc with mstate := m, phase := ph } } = takeContour c rest s := by
  have prog := headTaken_prog c rest (s := s) (u := { s with cyc := { s.cyc with mstate := m, phase := ph } }) rfl
  rw [takeContour_eq, takeContour_eq, prog]

/-- Entering RUNNING before the continuation leaves what the continuation from IDLE leaves, save the demand. -/
theorem continuationWith_enterRunning (s : State) :
    ∃ b, continuationWith id (enterState .running none s) = continuationWith id { s with jet := s.jet.shut b } := by
  refine ⟨bandAfter 0 { s with cyc := { s.cyc with mstate := .running, phase := none } }, ?_⟩
  rw [enterState_closed _ _ _ rfl, closeJet_shut _ rfl]
  generalize bandAfter 0 { s with cyc := { s.cyc with mstate := .running, phase := none } } = b
  unfold continuationWith
  dsimp only
  refine if_congr Iff.rfl rfl ?_
  cases s.prog.runList with
  | nil => rfl
  | cons c rest =>
    exact takeContour_fromState .running none c rest { s with jet := s.jet.shut b }

theorem keeps_startContinuation (hm : s.cyc.mstate = .idle) :
    Keeps k s (continuationWith id (enterState .running none s)) := by
  obtain ⟨b, hb⟩ := continuationWith_enterRunning s
  rw [hb]
  have shut : Keeps k s { s with jet := s.jet.shut b } :=
    keeps_onJet (fun j => j.shut b) (fun h => absurd rfl h) (.inr fun _ => ⟨rfl, rfl, rfl, rfl, rfl, rfl, rfl, rfl, rfl⟩)
      (fun _ => id) fun _ => id
  exact shut.trans (keeps_continuationWith (.of_mstate hm (by decide))
    (fun hs => active_none_of_outside hs (by rw [hm]; rfl)) (fun hs => homing_none_of_ne hs (by simp [hm])) fun u _ => .refl k u)

theorem answerKeeps_cycleStart (s : State) : AnswerKeeps k s (answerCycleStart s) := by
  unfold answerCycleStart
  refine .ite (fun _ => answerKeeps_refused _ s) fun hm => .ite (fun _ => answerKeeps_refused _ s) fun _ =>
    .ite (fun _ => answerKeeps_refused _ s) fun _ => .ite (fun _ => answerKeeps_refused _ s) fun _ =>
    .ite (fun _ => answerKeeps_refused _ s) fun _ => ⟨?_, fun u _ hl => ?_⟩
  · exact (keeps_cycMarks (fun c => { c with cycleStop := false }) ⟨rfl, rfl, rfl, rfl, rfl⟩ rfl (.inr ⟨id, id⟩)).trans
      (keeps_startContinuation (by simpa using hm))
  · dsimp only [startCycle]
    split
    · exact keeps_faultAction _ u
    · exact keeps_approachTaken hl

/-- The hold record is cleared before or after a state is entered. -/
theorem enterState_clearHold (m : MachineState) (ph : Option Phase) (s : State) :
    enterState m ph (clearHold s) = clearHold (enterState m ph s) := by
  cases hv : valvesAllowed { s.cyc with mstate := m, phase := ph } with
  | false =>
    rw [enterState_closed s _ _ hv, enterState_closed (clearHold s) _ _ hv, closeJet_eq, closeJet_eq]
    rfl
  | true =>
    rw [enterState_open s _ _ hv, enterState_open (clearHold s) _ _ hv, reformDemand_eq, reformDemand_eq]
    rfl

/-- The phase of a hold is entered again in RUNNING (R138). -/
theorem keeps_resumePhase {h : HoldRecord} (hm : s.cyc.mstate = .held) (hh : s.cyc.hold = some h) :
    Keeps k s (enterState .running (some h.phase) (clearHold s)) := by
  rw [enterState_clearHold]
  refine (keeps_enterRunning _ (.of_mstate hm (by decide)) (fun hs => homing_none_of_ne hs (by simp [hm])) fun hw hs =>
    active_none_of_wait hs ?_).trans (keeps_clearHold _)
  rw [hs.2.2.1 (.inr (.inl hm)) h hh, hw]

theorem keeps_beginBackup (jc : Option Pos) (p : Pos) {h : HoldRecord} (hm : s.cyc.mstate = .held)
    (hh : s.cyc.hold = some h) (hp : h.phase = .cut) : Keeps k s (beginBackup jc p s) := by
  have ha : Awake k s := .of_mstate hm (by decide)
  unfold beginBackup
  dsimp only
  generalize (s.cyc.hold.bind (·.stop)).getD p = stop
  have written : Keeps k s (s.onCyc fun c =>
      { c with hold := c.hold.map fun h => { h with jetClose := jc, rejoin := some p, step := some .backup } }) := by
    refine keeps_onCyc _ ⟨rfl, rfl, rfl, rfl, rfl⟩ (fun _ g hg => .inr ?_) (.inl ha)
    obtain ⟨g', hg', rfl⟩ := Option.map_eq_some_iff.mp hg
    exact ⟨g', hg', rfl⟩
  have entered := written.trans (keeps_enterState (k := k) .resuming (some .cut) (by decide) (.inl (ha.congr rfl))
    fun hs => ⟨rfl, fun _ => by simp, fun _ g hg => ?_, fun e => absurd (homing_none_of_ne hs (by simp [hm])) e, fun _ => rfl⟩)
  · have resuming : (enterState .resuming (some .cut) (s.onCyc fun c =>
        { c with hold := c.hold.map fun h => { h with jetClose := jc, rejoin := some p, step := some .backup } })).cyc.mstate
          = .resuming := by rw [enterState_mstate]
    have awake : Awake k _ := .of_mstate resuming (by decide)
    have turned := entered.trans (keeps_onPath (fun y => { y with dir := .reverse, speedSq := 0, motion := .run }) rfl
      (.inl awake))
    have still : Awake k _ := awake.congr (t := State.onPath (fun y => { y with
      dir := .reverse, speedSq := 0, motion := .run }) (enterState .resuming (some .cut) (s.onCyc fun c =>
        { c with hold := c.hold.map fun h => { h with jetClose := jc, rejoin := some p, step := some .backup } }))) rfl
    exact turned.trans (keeps_jumpCursor still stop)
  · obtain ⟨g', hg', rfl⟩ := Option.map_eq_some_iff.mp hg
    obtain rfl : h = g' := Option.some.inj (hh.symm.trans hg')
    exact congrArg some hp.symm

theorem keeps_resumeCut {h : HoldRecord} (hm : s.cyc.mstate = .held) (hh : s.cyc.hold = some h) (hp : h.phase = .cut) :
    Keeps k s (resumeCut h s) := by
  unfold resumeCut
  split
  · exact .ite (fun _ => keeps_beginBackup _ _ hm hh hp) fun _ => keeps_beginBackup _ _ hm hh hp
  · exact .refl k s

theorem keeps_resumeEntered {h : HoldRecord} (hm : s.cyc.mstate = .held) (hh : s.cyc.hold = some h) :
    Keeps k s (resumeEntered h s) := by
  have phase := keeps_resumePhase (k := k) hm hh
  unfold resumeEntered
  cases hp : h.phase with
  | cut => exact keeps_resumeCut hm hh hp
  | wait =>
    rw [hp] at phase
    have cyc := enterState_mstate .running (some .wait) (clearHold s)
    exact phase.trans (keeps_continuationWith (.of_mstate (m := .running) (by rw [cyc]) (by decide))
      (fun hs => active_none_of_wait hs (by rw [cyc])) (fun hs => homing_none_of_ne hs (by simp)) fun u _ => .refl k u)
  | approach | probe | pierce | retract => rw [hp] at phase; exact phase

theorem resumeEntered_running {h : HoldRecord} (hw : h.phase ≠ .wait) (hc : h.phase ≠ .cut) :
    (resumeEntered h s).cyc.mstate = .running := by
  unfold resumeEntered
  cases hp : h.phase with
  | wait => exact absurd hp hw
  | cut => exact absurd hp hc
  | approach | probe | pierce | retract => dsimp only; rw [enterState_mstate]

theorem keeps_resumeGoes (ph : Phase) (hl : k.lawful → FaultLaw s) (hr : ph ≠ .wait → ph ≠ .cut → s.cyc.mstate = .running) :
    Keeps k s (resumeGoes ph s) := by
  have running (h1 : ph ≠ .wait) (h2 : ph ≠ .cut) : Awake k s := .of_mstate (hr h1 h2) (by decide)
  cases ph with
  | wait => exact keeps_approachTaken hl
  | approach => exact keeps_beginApproach (running nofun nofun)
  | probe => exact keeps_toClearance (running nofun nofun) _ fun _ hu => keeps_startDescent ((running nofun nofun).alike hu)
  | pierce => exact keeps_beginPierce (running nofun nofun)
  | cut => exact .ite (fun _ => keeps_targetReached s) fun _ => .refl k s
  | retract =>
    exact keeps_toClearance (running nofun nofun) _ fun _ hu => keeps_contourDone (hu.1.trans (hr nofun nofun))

theorem answerKeeps_resume (s : State) : AnswerKeeps k s (answerResume s) := by
  unfold answerResume
  split
  · next h hm hh =>
    refine .ite (fun _ => answerKeeps_refused _ s) fun _ => ⟨keeps_resumeEntered hm hh, fun u hu hl => ?_⟩
    refine keeps_resumeGoes h.phase hl fun hw hc => ?_
    rw [hu]
    dsimp only
    exact resumeEntered_running hw hc
  · exact answerKeeps_refused _ s

/-! ### Override and release -/

theorem answerKeeps_setOverride (hl : k.lawful → FaultLaw s) (v : Nat) : AnswerKeeps k s (answerSetOverride v s) :=
  answerKeeps_accepted (keeps_formOverride id (clampOverride v) (fun _ => by simp only [clampOverride]; omega) (.inr rfl) hl)

theorem keeps_dropOutside (s : State) : Keeps k s (dropOutside s) :=
  keeps_withSetup fun _ _ => keeps_onAxes _ fun a h => by cases a <;> simp_all [PerAxis.get]

theorem dropOutside_cyc (s : State) : (dropOutside s).cyc = s.cyc := by
  unfold dropOutside withSetup
  split <;> rfl

theorem answerKeeps_releaseFault (hk : k.leaves) (s : State) : AnswerKeeps k s (answerReleaseFault s) := by
  unfold answerReleaseFault
  refine .ite (fun _ => answerKeeps_refused _ s) fun hm => .ite (fun _ => answerKeeps_refused _ s) fun _ =>
    .ite (fun _ => answerKeeps_refused _ s) fun _ => answerKeeps_accepted ?_
  have hm : s.cyc.mstate = .fault := by simpa using hm
  have released : Keeps k s (dropOutside (s.onCyc fun c => { c with faultCause := none })) :=
    (keeps_cycMarks (fun c => { c with faultCause := none }) ⟨rfl, rfl, rfl, rfl, rfl⟩ rfl (.inr ⟨id, id⟩)).trans
      (keeps_dropOutside _)
  have mstate : (dropOutside (s.onCyc fun c => { c with faultCause := none })).cyc.mstate = .fault := by
    rw [dropOutside_cyc]
    exact hm
  unfold releaseFaultNow
  refine released.trans (keeps_enterNoPhase _ ?_ ?_ (.inr hk) (by rw [mstate]; rfl) fun hs _ => homing_none_of_ne hs
    (by rw [mstate]; decide))
  · split <;> decide
  · split <;> rfl

/-! ### Homing and jogging -/

theorem keeps_startHoming (a : Axis) (rest : List Axis) (hm : s.cyc.mstate = .idle) : Keeps k s (startHoming a rest s) := by
  have entered : Keeps k s (enterState .homing none s) :=
    keeps_enterNoPhase _ (by decide) rfl (.inl (.of_mstate hm (by decide))) (by rw [hm]; rfl) fun _ h => absurd rfl h
  have listed : Keeps k (enterState .homing none s) ((enterState .homing none s).onHoming fun h => { h with remaining := rest }) :=
    keeps_onHoming _ .inl
  exact (entered.trans listed).trans (keeps_beginHoming a (.inr (by rw [State.onHoming_cyc, enterState_mstate])))

theorem answerKeeps_home (a : Nat) (s : State) : AnswerKeeps k s (answerHome a s) := by
  unfold answerHome
  refine .ite (fun _ => answerKeeps_refused _ s) fun hm => ?_
  have hm : s.cyc.mstate = .idle := by simpa using hm
  split
  · exact answerKeeps_accepted (keeps_startHoming _ _ hm)
  · exact .ite (fun _ => answerKeeps_accepted (keeps_startHoming _ _ hm)) fun _ => answerKeeps_refusedAt _ _ s

theorem keeps_enterJogging (s : State) : Keeps k s (enterJogging s) :=
  .ite (fun hm => keeps_enterNoPhase _ (by decide) rfl (.inl (.of_mstate hm (by decide))) (by rw [hm]; rfl)
    fun hs _ => homing_none_of_ne hs (by rw [hm]; decide)) fun _ => .refl k s

theorem answerKeeps_jog (a d v : Nat) (s : State) : AnswerKeeps k s (answerJog a d v s) := by
  unfold answerJog
  split
  · split
    · exact answerKeeps_refused _ s
    · exact answerKeeps_accepted ((keeps_enterJogging s).trans (keeps_startJog _ _ _ _))
  · exact answerKeeps_refusedAt _ _ s

theorem answerKeeps_jogStep (a : Nat) (d : Int) (s : State) : AnswerKeeps k s (answerJogStep a d s) := by
  unfold answerJogStep
  split
  · split
    · exact answerKeeps_refused _ s
    · exact answerKeeps_accepted ((keeps_enterJogging s).trans (keeps_startStep _ _ _))
  · exact answerKeeps_refusedAt _ _ s

/-! ### A request and its frame -/

/-- What a scope must grant to a request: room for its accumulators, the end of FAULT to RELEASE_FAULT, a port's mark to
RESTART. -/
def Grants (k : Scope) : Request → Prop
  | .setAccumulators seconds pierces => k.fits → seconds < 4294967296 ∧ pierces < 4294967296
  | .releaseFault => k.leaves
  | .restart => k.serves
  | _ => True

theorem answerKeeps (r : Request) (hr : Grants k r) (hl : k.lawful → FaultLaw s) : AnswerKeeps k s (answer r s) := by
  match r, hr with
  | .getStatus, hr => exact answerKeeps_accepted (.refl k s)
  | .getAxes, hr => exact answerKeeps_accepted (.refl k s)
  | .getContour c, hr =>
    unfold answer answerGetContour
    dsimp only
    split
    · exact answerKeeps_refusedAt _ _ s
    · exact answerKeeps_accepted (.refl k s)
  | .getSet n, hr =>
    unfold answer answerGetSet
    dsimp only
    split
    · exact answerKeeps_refusedAt _ _ s
    · exact answerKeeps_accepted (.refl k s)
  | .getAlert, hr => exact answerKeeps_accepted (.refl k s)
  | .releaseAlert, hr => exact answerKeeps_releaseAlert s
  | .proposeSet n f, hr => exact answerKeeps_proposeSet n f s
  | .declare c n q m v, hr => exact answerKeeps_declare c n q m v s
  | .append c es, hr => exact answerKeeps_append c es s
  | .seal c, hr => exact answerKeeps_seal c s
  | .clearContour c, hr => exact answerKeeps_clearContour hl c
  | .clearProgram, hr => exact answerKeeps_clearProgram s
  | .writeSetup m, hr => exact answerKeeps_writeSetup m s
  | .setAccumulators t n, hr => exact answerKeeps_setAccumulators t n hr s
  | .restart, hr => exact answerKeeps_accepted (keeps_onPorts hr _ rfl)
  | .approveSet n i, hr => exact answerKeeps_judgeProposal n i _ _ s
  | .declineSet n i, hr => exact answerKeeps_judgeProposal n i _ _ s
  | .setOverride v, hr => exact answerKeeps_setOverride hl v
  | .releaseFault, hr => exact answerKeeps_releaseFault hr s
  | .hold, hr => exact answerKeeps_hold s
  | .cycleStop, hr => exact answerKeeps_cycleStop s
  | .abort, hr => exact answerKeeps_accepted (keeps_abortEffect s)
  | .cycleStart, hr => exact answerKeeps_cycleStart s
  | .resume, hr => exact answerKeeps_resume s
  | .home a, hr => exact answerKeeps_home a s
  | .jog a d v, hr => exact answerKeeps_jog a d v s
  | .jogStep a d, hr => exact answerKeeps_jogStep a d s
  | .jogRefresh, hr =>
    exact .ite (fun _ => answerKeeps_accepted (keeps_onJog _)) fun _ => answerKeeps_refused _ s
  | .jogStop, hr => exact answerKeeps_accepted (keeps_stopJog s)

theorem keeps_sendReply (hv : k.serves) (p : Port) (tag : Byte) (st : Status) (items : List Item) (s : State) :
    Keeps k s (sendReply p tag st items s) :=
  (keeps_onPort hv p fun q => { q with service := .serving, reply := some (formReply tag st items s) }).trans
    (keeps_onPorts hv (fun q => { q with serial := q.serial + 1 }) rfl)

theorem keeps_takeRequest (hv : k.serves) (p : Port) (tag : Byte) (r : Request) {ans : State → Answer}
    (h : AnswerKeeps k s (ans s)) (hl : k.lawful → FaultLaw s) : Keeps k s (takeRequest p tag r ans s) := by
  refine .ite (fun _ => ?_) fun _ => keeps_sendReply hv _ _ _ _ s
  have replied := h.1.trans (keeps_sendReply hv p tag (ans s).status (ans s).items _)
  exact replied.trans (h.2 _ (by cases p <;> rfl) (replied.lawful hl))

theorem keeps_frameEnded (hv : k.serves) (p : Port) (s : State) : Keeps k s (frameEnded p s) := keeps_onPort hv p _

theorem keeps_serve (hv : k.serves) (p : Port) (tag : Byte) (r : Request) (hr : Grants k r) (hl : k.lawful → FaultLaw s) :
    Keeps k s (serve p tag r (answer r) s) :=
  keeps_live fun _ => (keeps_frameEnded hv p s).trans (.ite (fun _ => .refl _ _) fun _ =>
    keeps_takeRequest hv p tag r (answerKeeps r hr ((keeps_frameEnded hv p s).lawful hl)) ((keeps_frameEnded hv p s).lawful hl))

theorem byteAt_lt (b : List Byte) (i : Nat) : byteAt b i < 256 := (b.getD i 0).isLt

theorem wordAt_lt (b : List Byte) (i : Nat) : wordAt b i < 4294967296 := by
  have h0 := byteAt_lt b i
  have h1 := byteAt_lt b (i + 1)
  have h2 := byteAt_lt b (i + 2)
  have h3 := byteAt_lt b (i + 3)
  unfold wordAt
  omega

end Sys2Proof.Proofs
end

section
/-! The receiver, every command, and the statements of tier 3 that speak of every step. -/

namespace Sys2Proof.Proofs

open Sys2Proof.Machine

variable {k : Scope} {s t u : State}

/-- A frame carries accumulators that fit their bytes. -/
theorem readFields_accumulators {code seconds pierces : Nat} {body : List Byte}
    (h : readFields code body = some (.setAccumulators seconds pierces)) : seconds < 4294967296 ∧ pierces < 4294967296 := by
  unfold readFields at h
  split at h
  case h_13 =>
    obtain ⟨rfl, rfl⟩ := Request.setAccumulators.inj (Option.some.inj h)
    exact ⟨wordAt_lt _ _, wordAt_lt _ _⟩
  all_goals exact nomatch h

theorem grants_readRequest {code : Byte} {body : List Byte} {r : Request} (hv : k.serves) (hk : k.leaves)
    (h : readRequest code body = .ok r) : Grants k r := by
  cases r with
  | setAccumulators seconds pierces =>
    unfold readRequest at h
    split at h
    · split at h <;> exact nomatch h
    · split at h
      · next r' _ hr =>
        split at h
        · obtain rfl := Except.ok.inj h
          exact fun _ => readFields_accumulators hr
        · exact nomatch h
      · exact nomatch h
  | releaseFault => exact hk
  | restart => exact hv
  | _ => trivial

theorem keeps_completeRequest (hv : k.serves) (hk : k.leaves) (hl : k.lawful → FaultLaw s) (p : Port)
    (tag code : Byte) (body : List Byte) :
    Keeps k s (completeRequest p tag code body s) := by
  refine (keeps_frameEnded hv p s).trans (.ite (fun _ => .refl _ _) fun _ => ?_)
  split
  · exact keeps_sendReply hv _ _ _ _ _
  · next r hr =>
    have lawful := (keeps_frameEnded hv p s).lawful hl
    exact keeps_takeRequest hv p tag r (answerKeeps r (grants_readRequest hv hk hr) lawful) lawful

theorem keeps_huntAgain (hv : k.serves) (p : Port) (s : State) : Keeps k s (huntAgain p s) := keeps_onPort hv p _

theorem keeps_byteInHunt (hv : k.serves) (p : Port) (b : Byte) (s : State) : Keeps k s (byteInHunt p b s) :=
  .ite (fun _ => keeps_onPort hv p _) fun _ => keeps_huntAgain hv p s

theorem keeps_frameWhole (hv : k.serves) (hk : k.leaves) (hl : k.lawful → FaultLaw s) (p : Port) (bytes : List Byte) :
    Keeps k s (frameWhole p bytes s) :=
  .ite (fun _ => keeps_completeRequest hv hk hl p _ _ _) fun _ => keeps_frameEnded hv p s

theorem keeps_byteInFrame (hv : k.serves) (hk : k.leaves) (hl : k.lawful → FaultLaw s) (p : Port) (b : Byte) :
    Keeps k s (byteInFrame p b s) :=
  .ite (fun _ => keeps_huntAgain hv p s) fun _ => .ite (fun _ => keeps_frameWhole hv hk hl p _) fun _ => keeps_onPort hv p _

theorem keeps_characterTaken (hv : k.serves) (hk : k.leaves) (hl : k.lawful → FaultLaw s) (p : Port) (b : Byte) (stopBit : Bool) :
    Keeps k s (characterTaken p b stopBit s) := by
  unfold characterTaken
  split
  · exact keeps_byteInFrame hv hk hl p b
  · exact keeps_huntAgain hv p s
  · exact keeps_byteInHunt hv p b s
  · exact keeps_byteInHunt hv p b s
  · exact keeps_huntAgain hv p s
  · exact keeps_huntAgain hv p s

theorem keeps_frameTimedOut (hv : k.serves) (p : Port) (s : State) : Keeps k s (frameTimedOut p s) :=
  .ite (fun _ => keeps_huntAgain hv p s) fun _ => .refl k s

theorem keeps_replyEnded (hv : k.serves) (hk : k.leaves) (p : Port) (s : State) : Keeps k s (replyEnded p s) :=
  .ite (fun _ => .refl k s) fun _ => .ite (fun _ => keeps_resetNow hv hk _ s) fun _ => keeps_onPort hv p _

theorem keeps_serveAppend (hv : k.serves) (hl : k.lawful → FaultLaw s) (p : Port) (tag : Byte) (c : Nat) (es : List Entry) :
    Keeps k s (serveAppend p tag c es s) :=
  .ite (fun _ => keeps_serve hv p tag (.append c es) trivial hl) fun _ => keeps_live fun _ =>
    (keeps_frameEnded hv p s).trans (.ite (fun _ => .refl _ _) fun _ => keeps_sendReply hv _ _ _ _ _)

/-! ### Every command -/

/-- A command that may end the machine state FAULT: a release, a frame or a character that may carry it, and a reset. -/
def mayLeaveFault : Instr → Bool
  | .releaseFault _ _ | .unknownRequest _ _ _ _ | .characterReceived _ _ _ | .replySent _ | .resetInput _ | .powerOn _ =>
    true
  | _ => false

/-- What a scope says is true of the command and of the state that it finds. -/
structure Scope.Covers (k : Scope) (c : Instr) (s : State) : Prop where
  lawful : k.lawful → FaultLaw s
  fits : k.fits → c.wf = true
  homes : c = .homingSettleAtRest ∨ c = .homingReturnAtRest → k.homes
  leaves : mayLeaveFault c = true → k.leaves
  serves : k.serves

theorem keeps_next {o : Host.Outcome State Fault Refusal} (hk : Keeps k s u) (ho : o = .next u) (h : o = .next t) :
    Keeps k s t := by
  rw [ho] at h
  obtain rfl := Host.Outcome.next.inj h
  exact hk

/-- A line takes a level, and its change acts. -/
theorem keeps_edge {edge : Bool} (g : Lines → Lines) {f : State → State}
    (h : Keeps k (s.onLines g) (f (s.onLines g))) :
    Keeps k s (if edge then live f (s.onLines g) else s.onLines g) :=
  (keeps_onLines g).trans (.ite (fun _ => keeps_live fun _ => h) fun _ => .refl _ _)

/-- Every command keeps the laws. -/
theorem exec_keeps {c : Instr} (hk : k.Covers c s) (h : exec c s = .next t) : Keeps k s t := by
  obtain ⟨hl, hfits, hhomes, hleaves, hv⟩ := hk
  have served (p : Port) (tag : Byte) (r : Request) (hr : Grants k r) := keeps_serve (k := k) (s := s) hv p tag r hr hl
  have event {f : State → State} (hf : Keeps k s (f s)) : Keeps k s (live f s) := keeps_live fun _ => hf
  have lines (g : Lines → Lines) : k.lawful → FaultLaw (s.onLines g) := (keeps_onLines g).lawful hl
  cases c with
  | getStatus p tag => exact keeps_next (served p tag .getStatus trivial) rfl h
  | getAxes p tag => exact keeps_next (served p tag .getAxes trivial) rfl h
  | getContour p tag c => exact keeps_next (served p tag (.getContour c) trivial) rfl h
  | getSet p tag n => exact keeps_next (served p tag (.getSet n) trivial) rfl h
  | getAlert p tag => exact keeps_next (served p tag .getAlert trivial) rfl h
  | releaseAlert p tag => exact keeps_next (served p tag .releaseAlert trivial) rfl h
  | proposeSet p tag n f => exact keeps_next (served p tag (.proposeSet n f) trivial) rfl h
  | declare p tag c n q m v => exact keeps_next (served p tag (.declare c n q m v) trivial) rfl h
  | append p tag c es => exact keeps_next (keeps_serveAppend hv hl p tag c es) rfl h
  | sealContour p tag c => exact keeps_next (served p tag (.seal c) trivial) rfl h
  | clearContour p tag c => exact keeps_next (served p tag (.clearContour c) trivial) rfl h
  | clearProgram p tag => exact keeps_next (served p tag .clearProgram trivial) rfl h
  | writeSetup p tag m => exact keeps_next (served p tag (.writeSetup m) trivial) rfl h
  | setAccumulators p tag t n =>
    refine keeps_next (served p tag (.setAccumulators t n) fun hf => ?_) rfl h
    simpa [Instr.wf, fitsWord] using hfits hf
  | restart p tag => exact keeps_next (served p tag .restart hv) rfl h
  | approveSet p tag n i => exact keeps_next (served p tag (.approveSet n i) trivial) rfl h
  | declineSet p tag n i => exact keeps_next (served p tag (.declineSet n i) trivial) rfl h
  | setOverride p tag v => exact keeps_next (served p tag (.setOverride v) trivial) rfl h
  | releaseFault p tag => exact keeps_next (served p tag .releaseFault (hleaves rfl)) rfl h
  | hold p tag => exact keeps_next (served p tag .hold trivial) rfl h
  | cycleStop p tag => exact keeps_next (served p tag .cycleStop trivial) rfl h
  | abort p tag => exact keeps_next (served p tag .abort trivial) rfl h
  | cycleStart p tag => exact keeps_next (served p tag .cycleStart trivial) rfl h
  | resume p tag => exact keeps_next (served p tag .resume trivial) rfl h
  | home p tag a => exact keeps_next (served p tag (.home a) trivial) rfl h
  | jog p tag a d v => exact keeps_next (served p tag (.jog a d v) trivial) rfl h
  | jogStep p tag a d => exact keeps_next (served p tag (.jogStep a d) trivial) rfl h
  | jogRefresh p tag => exact keeps_next (served p tag .jogRefresh trivial) rfl h
  | jogStop p tag => exact keeps_next (served p tag .jogStop trivial) rfl h
  | unknownRequest p tag code body => exact keeps_next (event (keeps_completeRequest hv (hleaves rfl) hl p tag code body)) rfl h
  | characterReceived p b stopBit => exact keeps_next (event (keeps_characterTaken hv (hleaves rfl) hl p b stopBit)) rfl h
  | frameTimerExpiry p => exact keeps_next (event (keeps_frameTimedOut hv p s)) rfl h
  | replySent p => exact keeps_next (event (keeps_replyEnded hv (hleaves rfl) p s)) rfl h
  | resetInput v => exact keeps_next (keeps_resetLines hv (hleaves rfl) _ s) rfl h
  | powerOn v => exact keeps_next (keeps_resetLines hv (hleaves rfl) _ s) rfl h
  | estopAssert => exact keeps_next (keeps_edge (edge := !s.lines.estop) _ (keeps_estopAsserted _)) rfl h
  | estopNegate => exact keeps_next ((keeps_onLines _).trans (keeps_live fun _ => keeps_retestCause _)) rfl h
  | limitAssert a d =>
    exact keeps_next (keeps_edge (edge := !s.lines.limit a d) _ (keeps_limitAsserted a d _)) rfl h
  | limitNegate a d => exact keeps_next ((keeps_onLines _).trans (keeps_live fun _ => keeps_retestCause _)) rfl h
  | homeInputAssert a => exact keeps_next (keeps_edge (edge := !s.lines.homes.get a) _ (keeps_homeEdge a _)) rfl h
  | homeInputNegate a => exact keeps_next (keeps_edge (edge := s.lines.homes.get a) _ (keeps_homeCleared a _)) rfl h
  | contactAssert => exact keeps_next (keeps_edge (edge := !s.lines.contact) _ (keeps_contactMade (lines _))) rfl h
  | contactNegate => exact keeps_next ((keeps_onLines _).trans (keeps_live fun _ => keeps_contactGone _)) rfl h
  | abrflowAssert => exact keeps_next (keeps_edge (edge := !s.lines.abrflow) _ (keeps_abrflowAsserted _)) rfl h
  | abrflowNegate => exact keeps_next (keeps_edge (edge := s.lines.abrflow) _ (keeps_abrflowNegated (lines _))) rfl h
  | pumprdyNegate v =>
    exact keeps_next (keeps_edge (edge := s.lines.pumprdy && !v) _ (keeps_pumprdyNegated _)) rfl h
  | pfbChange v => exact keeps_next ((keeps_onLines _).trans (keeps_live fun _ => keeps_pfbChanged (lines _))) rfl h
  | encoderCount a up => exact keeps_next (event (keeps_encoderCounted a up s)) rfl h
  | keyModeChange k1 k0 => exact keeps_next ((keeps_onLines _).trans (keeps_live fun _ => keeps_keyRead hv (lines _))) rfl h
  | settleTimerExpiry => exact keeps_next (event (keeps_settleExpired hl)) rfl h
  | dipTimerExpiry => exact keeps_next (event (keeps_dipExpired hl)) rfl h
  | tLowDwellEnd => exact keeps_next (event (keeps_tLowEnded hl)) rfl h
  | rampTick => exact keeps_next (event (keeps_rampTicked hl)) rfl h
  | rampEnd => exact keeps_next (event (keeps_rampEnded hl)) rfl h
  | tDwellEnd => exact keeps_next (event (keeps_tDwellEnded hl)) rfl h
  | tRejoinDwellEnd => exact keeps_next (event (keeps_rejoinDwellEnded hl)) rfl h
  | abrasiveDelayExpiry => exact keeps_next (event (keeps_delayExpired hl)) rfl h
  | abrasiveGraceExpiry => exact keeps_next (event (keeps_graceTimerExpired hl)) rfl h
  | keepTimerExpiry => exact keeps_next (event (keeps_keepExpired s)) rfl h
  | seekTravelLimit => exact keeps_next (event (keeps_seekFailed s)) rfl h
  | jetTimeCount => exact keeps_next (event (keeps_jetTimeCounted s)) rfl h
  | segmentCompletion => exact keeps_next (event (keeps_segmentCompleted hl)) rfl h
  | segmentBoundaryPassed => exact keeps_next (event (keeps_boundaryPassed hl)) rfl h
  | backupTargetReached => exact keeps_next (event (keeps_targetReached s)) rfl h
  | jetClosePointPassed => exact keeps_next (event (keeps_closePointPassed s)) rfl h
  | pathAtRest => exact keeps_next (event (keeps_pathRested hl)) rfl h
  | zMoveComplete => exact keeps_next (event (keeps_zMoveCompleted hl)) rfl h
  | zAtRest => exact keeps_next (event (keeps_zRested hl)) rfl h
  | probeEndOfTravel => exact keeps_next (event (keeps_probeEnded s)) rfl h
  | homingClearAtRest => exact keeps_next (event (keeps_clearRested s)) rfl h
  | homingSettleAtRest => exact keeps_next (event (keeps_settleRested (hhomes (.inl rfl)) hl)) rfl h
  | homingReturnAtRest => exact keeps_next (event (keeps_returnRested (hhomes (.inr rfl)) hl)) rfl h
  | homingStoppedAtRest => exact keeps_next (event (keeps_homingStopped hl)) rfl h
  | jogAtRest => exact keeps_next (event (keeps_jogRested s)) rfl h
  | stepPulse a => exact keeps_next (event (keeps_stepPulsed a s)) rfl h

/-- Of a command of which nothing is known. -/
def anyCommand : Scope := ⟨False, False, True, True, True⟩

theorem anyCommand_covers (c : Instr) (s : State) : anyCommand.Covers c s :=
  ⟨False.elim, False.elim, fun _ => trivial, fun _ => trivial, trivial⟩

theorem exec_keeps_any {c : Instr} (h : exec c s = .next t) : Keeps anyCommand s t := exec_keeps (anyCommand_covers c s) h

/-- A law of the whole state but its queue is kept by every step, where it is kept by every command. -/
theorem step_preserves {P : State → Prop} (hq : ∀ u q, P u → P { u with pending := q })
    (hc : ∀ i ∈ s.pending, ∀ u, exec i u = .next t → P u → P t) (h : step s = .next t) (hs : P s) : P t := by
  unfold step at h
  split at h
  · obtain rfl := Host.Outcome.next.inj h
    exact hs
  · next i rest hp => exact hc i (by simp [hp]) _ h (hq s rest hs)

/-- Settles O27, from what every command keeps. -/
theorem stepsKeepStoreLaws : Obligations.StepsKeepStoreLaws :=
  ⟨fun _ _ h => ⟨step_preserves (P := StoreLaw) (fun _ _ => id) (fun _ _ _ he => (exec_keeps_any he).store) h,
    step_preserves (P := SequenceLaw) (fun _ _ => id) (fun _ _ _ he => (exec_keeps_any he).sequence) h⟩,
    fun _ _ => step_preserves (P := LoadingLaw) (fun _ _ => id) fun _ _ _ he => (exec_keeps_any he).loading⟩

/-- Settles O28: the Run List's law is kept together with that of the cycle. -/
theorem stepsKeepRunList : Obligations.StepsKeepRunList := fun _ _ h hc =>
  ⟨step_preserves (P := CycleLaw) (fun _ _ => id) (fun _ _ _ he => (exec_keeps_any he).cycle) h hc,
    fun hr => (step_preserves (P := fun u => CycleLaw u ∧ RunListLaw u) (fun _ _ => id)
      (fun _ _ _ he ⟨huc, hur⟩ => ⟨(exec_keeps_any he).cycle huc, (exec_keeps_any he).runList huc hur⟩) h ⟨hc, hr⟩).2⟩

/-- Settles O41: the queue loses its front only, and a command whose operands fit keeps the ranges. -/
theorem stepsKeepOverrideAndRecord : Obligations.StepsKeepOverrideAndRecord := by
  refine fun s _ h => ⟨step_preserves (P := OverrideLaw) (fun _ _ => id) (fun _ _ _ he => (exec_keeps_any he).override) h,
    fun hq hr => ?_⟩
  unfold step at h
  split at h
  · obtain rfl := Host.Outcome.next.inj h
    exact ⟨hq, hr⟩
  · next i rest hp =>
    have fitting : Scope.Covers ⟨False, True, True, True, True⟩ i { s with pending := rest } :=
      ⟨False.elim, fun _ => hq i (by simp [hp]), fun _ => trivial, fun _ => trivial, trivial⟩
    have kept := exec_keeps fitting h
    refine ⟨fun j hj => hq j ?_, kept.record trivial hr⟩
    rw [kept.pending] at hj
    simp [hp, hj]

/-- Settles O42, from what every command keeps. -/
theorem stepsKeepValvesClosed : Obligations.StepsKeepValvesClosed := fun _ _ =>
  step_preserves (P := ValvesLaw) (fun _ _ => id) fun _ _ _ he => (exec_keeps_any he).valves

/-- Settles O55: of the other commands none sets a homed flag. -/
theorem onlyHomingHomes : Obligations.OnlyHomingHomes := fun c a s t h hsettle hreturn hs => by
  have covered : Scope.Covers ⟨False, False, False, True, True⟩ c s :=
    ⟨False.elim, False.elim, fun hc => hc.elim hsettle hreturn, fun _ => trivial, trivial⟩
  exact Bool.eq_false_iff.mpr fun ht => Bool.eq_false_iff.mp hs ((exec_keeps covered h).homed id a ht)

/-- Settles O60: what FAULT holds makes every other command find nothing that moves. -/
theorem faultHoldsUntilReleased : Obligations.FaultHoldsUntilReleased := by
  refine ⟨fun s t => step_preserves (P := FaultLaw) (fun _ _ => id) fun c _ u he hu => ?_,
    fun c s t hs hm h hrelease hunknown hchar hsent hreset hpower => ?_⟩
  · have covered : Scope.Covers ⟨True, False, True, True, True⟩ c u :=
        ⟨fun _ => hu, False.elim, fun _ => trivial, fun _ => trivial, trivial⟩
    exact ((exec_keeps covered he).fault trivial hu).1
  · have stays : mayLeaveFault c = false := by
      cases c with
      | releaseFault p tag => exact absurd rfl (hrelease p tag)
      | unknownRequest p tag code body => exact absurd rfl (hunknown p tag code body)
      | characterReceived p b v => exact absurd rfl (hchar p b v)
      | replySent p => exact absurd rfl (hsent p)
      | resetInput v => exact absurd rfl (hreset v)
      | powerOn v => exact absurd rfl (hpower v)
      | _ => rfl
    have covered : Scope.Covers ⟨True, False, True, False, True⟩ c s :=
      ⟨fun _ => hs, False.elim, fun _ => trivial, fun hc => absurd (hc.symm.trans stays) (by decide), trivial⟩
    exact ((exec_keeps covered h).fault trivial hs).2 id hm

/-- Settles O2: no command writes the queue. -/
theorem queueFirstInFirstOut : Obligations.QueueFirstInFirstOut := by
  refine ⟨fun s hs => ?_, fun c s t h => (exec_keeps_any h).pending⟩
  unfold step
  rw [hs]

/-- Settles O1. -/
theorem stepRunsTheFrontCommand : Obligations.StepRunsTheFrontCommand := fun _ _ _ => rfl

/-- Settles O4, from the laws of a state after a reset. -/
theorem lawsAtReset : Obligations.LawsAtReset := fun l queue hq =>
  ⟨hq, Nat.zero_le _, sequenceLaw_resetWith l queue, loadingLaw_resetWith l queue, cycleLaw_resetWith l queue,
    runListLaw_resetWith l queue, overrideLaw_resetWith l queue, fun h => absurd rfl h, recordLaw_resetWith l queue,
    faultLaw_resetWith l queue, rfl⟩

end Sys2Proof.Proofs
end

section
/-! The service of a request: what a port discards, refuses and answers, the form of a reply, the end of a reply, and the
requests that read the part. -/

namespace Sys2Proof.Proofs

open Sys2Proof.Machine

variable {s t : State} {p : Port} {tag : Byte} {r : Request}

/-! ### A row and its service -/

/-- Every request row that can occur is served by its owning block. -/
theorem exec_row (h : (r.row p tag).wf = true) : exec (r.row p tag) s = .next (serve p tag r (answer r) s) := by
  cases r with
  | append c es =>
    have fits : appendFits es = true := by
      simp only [Request.row, Instr.wf, Bool.and_eq_true] at h
      simp [appendFits, h]
    exact congrArg _ (if_pos fits)
  | _ => rfl

@[simp] theorem frameEnded_lines (p : Port) (s : State) : (frameEnded p s).lines = s.lines := rfl
@[simp] theorem frameEnded_setups (p : Port) (s : State) : (frameEnded p s).setups = s.setups := rfl
@[simp] theorem frameEnded_axes (p : Port) (s : State) : (frameEnded p s).axes = s.axes := rfl
@[simp] theorem frameEnded_jet (p : Port) (s : State) : (frameEnded p s).jet = s.jet := rfl
@[simp] theorem frameEnded_path (p : Port) (s : State) : (frameEnded p s).path = s.path := rfl
@[simp] theorem frameEnded_alert (p : Port) (s : State) : (frameEnded p s).alert = s.alert := rfl
@[simp] theorem frameEnded_homing (p : Port) (s : State) : (frameEnded p s).homing = s.homing := rfl
@[simp] theorem frameEnded_jog (p : Port) (s : State) : (frameEnded p s).jog = s.jog := rfl
@[simp] theorem frameEnded_zmotion (p : Port) (s : State) : (frameEnded p s).zmotion = s.zmotion := rfl

@[simp] theorem frameEnded_keyMode (p : Port) (s : State) : (frameEnded p s).ports.keyMode = s.ports.keyMode := by
  cases p <;> rfl

/-- The receiver's CHECK does not bear on what a port discards. -/
@[simp] theorem discards_frameEnded (p : Port) (s : State) : discards (frameEnded p s) p = discards s p := by
  cases p <;> rfl

/-- The requests that every port takes at all times. -/
theorem takes_of_read (hr : r.access = .read ∨ r.access = .cycle) (h : Ready s p) : Takes s p r := by
  refine ⟨h, ?_⟩
  rw [Admits]
  obtain e | e := hr
  · rw [e]; cases p <;> rfl
  · rw [e]; cases p <;> rfl

/-- The operator's requests are admitted on the Pendant Port at all times. -/
theorem takes_of_operator (hr : r.access = .operator) (h : Ready s .pendant) : Takes s .pendant r := by
  refine ⟨h, ?_⟩
  rw [Admits, hr]
  rfl

/-- A request that its owning block refuses with an index changes nothing but its port. -/
theorem serve_refusedAt {st : Status} {i : Nat} {ans : State → Answer} (h : Takes s p r)
    (ha : ans (frameEnded p s) = refusedAt st i (frameEnded p s)) :
    serve p tag r ans s = sendReply p tag st (num1 i) (frameEnded p s) := by
  rw [serve_taken s p tag r ans h, ha]
  rfl

/-! ### Reset -/

/-- Settles O3. -/
theorem resetValues : Obligations.ResetValues := by
  intro l queue
  have contours (c : Fin Config.contours) : (State.resetWith l queue).contour? c = none := by
    simp [State.contour?, State.resetWith, ProgramStore.reset]
  have keyMode : (State.resetWith l queue).ports.keyMode = (match l.key1, l.key0 with
      | false, true => KeyMode.setup
      | true, false => .service
      | _, _ => .production) := by
    cases h1 : l.key1 <;> cases h0 : l.key0 <;> simp [State.resetWith, Ports.reset, KeyMode.decode, h1, h0]
  refine ⟨⟨rfl, rfl, rfl, rfl, rfl, rfl, rfl, rfl, rfl, rfl, rfl⟩, ⟨rfl, rfl, rfl, rfl, rfl, rfl, rfl, rfl, rfl, rfl, rfl⟩,
    ⟨contours, rfl, rfl, rfl, rfl, rfl⟩, ⟨rfl, rfl, rfl, ?_⟩, fun a => by cases a <;> exact ⟨rfl, rfl, rfl, rfl, rfl⟩,
    ⟨⟨rfl, rfl, rfl, rfl, rfl, rfl, rfl, rfl, rfl⟩, rfl, rfl, rfl, rfl, rfl, rfl⟩, ⟨fun n => ?_, rfl⟩, rfl,
    fun q => by cases q <;> exact ⟨rfl, rfl, rfl⟩, keyMode⟩
  · have override := (overrideLaw_resetWith l queue).2.2
    exact override
  · simp [State.resetWith, SetupStore.reset]

/-! ### The Access Check -/

/-- Settles O11, by the access class of each request. -/
theorem accessCheck : Obligations.AccessCheck := by
  refine ⟨fun r p k m => ?_, fun r p tag s hwf hready hadmits => ?_⟩
  · cases r <;> cases p <;> cases k <;> simp [Request.access, AccessClass.admits]
  · rw [exec_row hwf, serve_refused s p tag r (answer r) hready hadmits]

/-! ### A port that discards -/

theorem discards_of_serving (h : (s.ports.port p).service = .serving ∨ (p = .pendant ∧ s.ports.restartPending = true)) :
    discards s p = true := by
  simpa [discards] using h

/-- Settles O13: a row and a raw frame ask the same question of the port. -/
theorem servingPortDiscards : Obligations.ServingPortDiscards := by
  intro p tag s hlive hserving
  have gone := discards_of_serving hserving
  refine ⟨fun r hwf => ?_, fun code body => ?_⟩
  · rw [exec_row hwf, serve_discarded s p tag r (answer r) hlive gone]
  · refine congrArg Host.Outcome.next ?_
    rw [live_live s _ hlive]
    exact if_pos ((discards_frameEnded p s).trans gone)

/-! ### A request refused by its owning block -/

/-- An answer that is refused leaves the state as it found it, and nothing follows its reply. -/
def RefusalIsVoid (a : Answer) (s : State) : Prop := a.status ≠ .ok → a.next = s ∧ a.after = id

theorem refusalIsVoid_refused (st : Status) (s : State) : RefusalIsVoid (refused st s) s := fun _ => ⟨rfl, rfl⟩

theorem refusalIsVoid_refusedAt (st : Status) (i : Nat) (s : State) : RefusalIsVoid (refusedAt st i s) s :=
  fun _ => ⟨rfl, rfl⟩

theorem refusalIsVoid_ok {a : Answer} (h : a.status = .ok) : RefusalIsVoid a s := fun hn => absurd h hn

theorem refusalIsVoid_accepted (items : List Item) (t : State) : RefusalIsVoid (accepted items t) s := refusalIsVoid_ok rfl

theorem RefusalIsVoid.ite {c : Prop} [Decidable c] {a b : Answer} (ha : RefusalIsVoid a s) (hb : RefusalIsVoid b s) :
    RefusalIsVoid (if c then a else b) s := by
  split
  · exact ha
  · exact hb

theorem refusalIsVoid_declare (c n q m v : Nat) (s : State) : RefusalIsVoid (answerDeclare c n q m v s) s := by
  refine .ite (refusalIsVoid_refused _ s) ?_
  split
  · refine .ite (refusalIsVoid_refused _ s) (.ite (refusalIsVoid_refused _ s) ?_)
    split
    · exact .ite (refusalIsVoid_refused _ s) (refusalIsVoid_accepted _ _)
    all_goals exact refusalIsVoid_refused _ s
  · exact refusalIsVoid_refusedAt _ _ s

theorem refusalIsVoid_append (c : Nat) (es : List Entry) (s : State) : RefusalIsVoid (answerAppend c es s) s := by
  unfold answerAppend
  split
  · exact refusalIsVoid_refusedAt _ _ s
  · split
    · refine .ite (refusalIsVoid_refused _ s) ?_
      split
      · exact refusalIsVoid_refusedAt _ _ s
      · exact .ite (refusalIsVoid_refused _ s) (.ite (fun _ => ⟨rfl, rfl⟩) (refusalIsVoid_accepted _ _))
    · exact refusalIsVoid_refused _ s

theorem refusalIsVoid_seal (c : Nat) (s : State) : RefusalIsVoid (answerSeal c s) s := by
  unfold answerSeal
  split
  · exact refusalIsVoid_refusedAt _ _ s
  · split
    · exact refusalIsVoid_refused _ s
    · refine .ite (refusalIsVoid_refused _ s) ?_
      split
      · split
        · exact refusalIsVoid_refusedAt _ _ s
        · exact refusalIsVoid_refused _ s
        · exact refusalIsVoid_ok (sealAnswer_status _ _)
      · exact refusalIsVoid_refused _ s

theorem refusalIsVoid_clearContour (c : Nat) (s : State) : RefusalIsVoid (answerClearContour c s) s := by
  unfold answerClearContour
  split
  · exact refusalIsVoid_refusedAt _ _ s
  · split
    · exact refusalIsVoid_refused _ s
    · exact .ite (refusalIsVoid_refused _ s) (refusalIsVoid_accepted _ _)

theorem refusalIsVoid_proposeSet (n : Nat) (f : ProcessSet) (s : State) : RefusalIsVoid (answerProposeSet n f s) s := by
  unfold answerProposeSet
  split
  · exact refusalIsVoid_refusedAt _ _ s
  · split
    · exact refusalIsVoid_refusedAt _ _ s
    · exact refusalIsVoid_refusedAt _ _ s
    · exact refusalIsVoid_refusedAt _ _ s
    · exact .ite (refusalIsVoid_refused _ s) (refusalIsVoid_accepted _ _)

theorem refusalIsVoid_judgeProposal (n i : Nat) (items : List Item) (take : ProcessSet → SetContent) (s : State) :
    RefusalIsVoid (judgeProposal n i items take s) s := by
  unfold judgeProposal
  split
  · exact refusalIsVoid_refusedAt _ _ s
  · dsimp only
    split
    · exact refusalIsVoid_refused _ s
    · exact refusalIsVoid_refused _ s
    · exact .ite (refusalIsVoid_refused _ s) (refusalIsVoid_accepted _ _)

theorem refusalIsVoid_writeSetup (m : MachineSetup) (s : State) : RefusalIsVoid (answerWriteSetup m s) s := by
  refine .ite (refusalIsVoid_refused _ s) (.ite (refusalIsVoid_refused _ s) ?_)
  split
  · exact refusalIsVoid_refusedAt _ _ s
  · exact refusalIsVoid_refusedAt _ _ s
  · exact refusalIsVoid_ok rfl

theorem refusalIsVoid_hold (s : State) : RefusalIsVoid (answerHold s) s := by
  unfold answerHold
  split
  · exact .ite (refusalIsVoid_accepted _ _) (.ite (refusalIsVoid_accepted _ _) (refusalIsVoid_accepted _ _))
  · exact refusalIsVoid_accepted _ _
  · exact refusalIsVoid_accepted _ _
  · exact refusalIsVoid_accepted _ _
  all_goals exact refusalIsVoid_refused _ s

theorem refusalIsVoid_resume (s : State) : RefusalIsVoid (answerResume s) s := by
  unfold answerResume
  split
  · exact .ite (refusalIsVoid_refused _ s) (refusalIsVoid_ok rfl)
  · exact refusalIsVoid_refused _ s

theorem refusalIsVoid_home (a : Nat) (s : State) : RefusalIsVoid (answerHome a s) s := by
  refine .ite (refusalIsVoid_refused _ s) ?_
  split
  · exact refusalIsVoid_accepted _ _
  · exact .ite (refusalIsVoid_accepted _ _) (refusalIsVoid_refusedAt _ _ s)

theorem refusalIsVoid_jog (a d v : Nat) (s : State) : RefusalIsVoid (answerJog a d v s) s := by
  unfold answerJog
  split
  · split
    · exact refusalIsVoid_refused _ s
    · exact refusalIsVoid_accepted _ _
  · exact refusalIsVoid_refusedAt _ _ s

theorem refusalIsVoid_jogStep (a : Nat) (d : Int) (s : State) : RefusalIsVoid (answerJogStep a d s) s := by
  unfold answerJogStep
  split
  · split
    · exact refusalIsVoid_refused _ s
    · exact refusalIsVoid_accepted _ _
  · exact refusalIsVoid_refusedAt _ _ s

/-- Every refusal of an owning block is void. -/
theorem refusalIsVoid (r : Request) (s : State) : RefusalIsVoid (answer r s) s := by
  match r with
  | .getContour c =>
    unfold answer answerGetContour
    dsimp only
    split
    · exact refusalIsVoid_refusedAt _ _ s
    · exact refusalIsVoid_accepted _ s
  | .getSet n =>
    unfold answer answerGetSet
    dsimp only
    split
    · exact refusalIsVoid_refusedAt _ _ s
    · exact refusalIsVoid_accepted _ s
  | .proposeSet n f => exact refusalIsVoid_proposeSet n f s
  | .declare c n q m v => exact refusalIsVoid_declare c n q m v s
  | .append c es => exact refusalIsVoid_append c es s
  | .seal c => exact refusalIsVoid_seal c s
  | .clearContour c => exact refusalIsVoid_clearContour c s
  | .clearProgram => exact .ite (refusalIsVoid_refused _ s) (refusalIsVoid_accepted _ _)
  | .writeSetup m => exact refusalIsVoid_writeSetup m s
  | .approveSet n i => exact refusalIsVoid_judgeProposal n i _ _ s
  | .declineSet n i => exact refusalIsVoid_judgeProposal n i _ _ s
  | .releaseFault =>
    exact .ite (refusalIsVoid_refused _ s) (.ite (refusalIsVoid_refused _ s) (.ite (refusalIsVoid_refused _ s)
      (refusalIsVoid_accepted _ _)))
  | .hold => exact refusalIsVoid_hold s
  | .cycleStop =>
    exact .ite (refusalIsVoid_refused _ s) (.ite (refusalIsVoid_accepted _ _) (refusalIsVoid_accepted _ _))
  | .cycleStart =>
    exact .ite (refusalIsVoid_refused _ s) (.ite (refusalIsVoid_refused _ s) (.ite (refusalIsVoid_refused _ s)
      (.ite (refusalIsVoid_refused _ s) (.ite (refusalIsVoid_refused _ s) (refusalIsVoid_ok rfl)))))
  | .resume => exact refusalIsVoid_resume s
  | .home a => exact refusalIsVoid_home a s
  | .jog a d v => exact refusalIsVoid_jog a d v s
  | .jogStep a d => exact refusalIsVoid_jogStep a d s
  | .jogRefresh => exact .ite (refusalIsVoid_accepted _ _) (refusalIsVoid_refused _ s)
  | .getStatus | .getAxes | .getAlert | .releaseAlert | .setAccumulators _ _ | .restart | .setOverride _ | .abort | .jogStop =>
    exact refusalIsVoid_accepted _ _

/-- Settles O12: the refusals of the owning blocks are void. -/
theorem refusedRequestChangesNothing : Obligations.RefusedRequestChangesNothing := by
  intro r p tag s hwf htakes hstatus
  obtain ⟨next, after⟩ := refusalIsVoid r (frameEnded p s) hstatus
  rw [exec_row hwf, serve_taken s p tag r (answer r) htakes, after, next]
  rfl

/-! ### The form of a reply -/

theorem fillItems_length (n i : Nat) (items : List Item) : (fillItems n i items).length = items.length := by
  induction items generalizing i with
  | nil => rfl
  | cons x rest ih => simp [fillItems, ih]

/-- A field byte stands at its place. -/
theorem fillItems_getElem? {n i j : Nat} {items : List Item} {b : Byte} (h : items[j]? = some (some b)) :
    (fillItems n i items)[j]? = some b := by
  induction items generalizing i j with
  | nil => simp at h
  | cons x rest ih =>
    cases j with
    | zero =>
      obtain rfl : x = some b := by simpa using h
      rfl
    | succ j =>
      rw [fillItems, List.getElem?_cons_succ]
      exact ih (by simpa using h)

/-- Settles O14. -/
theorem replyForm : Obligations.ReplyForm := by
  intro p tag st items s
  have header : headerItems s
      = [some (BitVec.ofNat 8 s.cyc.mstate.number), some (if s.alert.isSome then 1#8 else 0#8)] := by
    cases h : s.alert with
    | none => simp [headerItems, num1, flag, leBytes, attention, h]
    | some a => simp [headerItems, num1, flag, leBytes, attention, h]
  refine ⟨formReply tag st items s, rfl, rfl, ?_, ?_, fun k b hk => ?_, rfl, rfl⟩
  · simp only [formReply, fillItems_length, header, List.length_append, List.length_cons, List.length_nil]
  · simp [formReply, header, fillItems]
  · refine fillItems_getElem? ?_
    rw [header, List.getElem?_append_right (by simp)]
    simpa using hk

/-! ### The end of a reply -/

theorem resetNow_quiet {l : Lines} (he : l.estop = false) (hf : l.firstLimit = none) :
    resetNow l s = State.resetWith l s.pending := by
  have quiet (q : Axis × Side) (hq : q ∈ limitOrder) : l.limit q.1 q.2 = false := by
    have := List.find?_eq_none.mp hf q hq
    simpa using this
  have estop : (State.resetWith l s.pending).lines = l := rfl
  unfold resetNow reportFound
  rw [estop, he]
  simp only [limitOrder, List.mem_cons, List.not_mem_nil, or_false, forall_eq_or_imp, forall_eq] at quiet
  simp [limitOrder, estop, quiet]

/-- Settles O15. -/
theorem replyEndAndRestart : Obligations.ReplyEndAndRestart := by
  refine ⟨fun p s hlive hserving hnot => ?_, fun tag s htakes => ?_, fun s hlive hserving hpending he hf => ?_⟩
  · refine congrArg Host.Outcome.next ?_
    rw [live_live s _ hlive, replyEnded, if_neg (by simp [hserving]), if_neg (by simpa using hnot)]
  · exact congrArg Host.Outcome.next (serve_accepted htakes rfl)
  · refine congrArg Host.Outcome.next ?_
    have serving : (s.ports.port .cell).service ≠ .ready := by simp [Ports.port, hserving]
    rw [live_live s _ hlive, replyEnded, if_neg serving, if_pos (by simp [hpending])]
    exact resetNow_quiet he hf

/-! ### The requests that read -/

@[simp] theorem leBytes_length (k n : Nat) : (leBytes k n).length = k := by
  induction k generalizing n with
  | zero => rfl
  | succ k ih => simp [leBytes, ih]

@[simp] theorem num1_length (n : Nat) : (num1 n).length = 1 := leBytes_length 1 n
@[simp] theorem num4_length (n : Nat) : (num4 n).length = 4 := leBytes_length 4 n
@[simp] theorem num8_length (n : Nat) : (num8 n).length = 8 := leBytes_length 8 n
@[simp] theorem int4_length (i : Int) : (int4 i).length = 4 := num4_length _
@[simp] theorem flag_length (b : Bool) : (flag b).length = 1 := num1_length _
@[simp] theorem posItems_length (q : Pos) : (posItems q).length = 8 := by simp [posItems]

/-- An optional field takes its presence byte and its width. -/
theorem optional_length {α : Type} {width : Nat} {f : α → List Item} (h : ∀ a, (f a).length = width) (v : Option α) :
    (optional width f v).length = width + 1 := by
  cases v with
  | none => simp [Machine.optional]
  | some a => simp [Machine.optional, h]

theorem flags_length {α : Type} (f : α → Bool) (l : List α) : (l.flatMap fun a => flag (f a)).length = l.length := by
  induction l with
  | nil => rfl
  | cons a l ih => simp [ih, Nat.add_comm]

theorem holdItems_length (h : HoldRecord) : (holdItems h).length = 29 := by
  simp [holdItems, optional_length posItems_length]

/-- R191: with the header of two, the reply to GET_STATUS takes 104 bytes. -/
theorem statusItems_length (s : State) : (statusItems s).length = 102 := by
  have sets : (s.setups.sets.toList.flatMap fun t => flag t.content.isProposed).length = 8 := by
    rw [flags_length, Vector.length_toList]
  unfold statusItems
  generalize (s.setups.sets.toList.flatMap fun t => flag t.content.isProposed) = proposed at sets
  simp only [List.length_append, num1_length, num4_length, int4_length, flag_length, homedItems]
  rw [sets, phaseItems, optional_length holdItems_length, optional_length posItems_length, optional_length num1_length,
    optional_length num1_length, optional_length num1_length, optional_length num1_length]

theorem axisItems_length (s : State) (a : Axis) : (axisItems s a).length = 20 := by
  simp [axisItems, optional_length int4_length]

theorem statusItems_frameEnded (p : Port) (s : State) : statusItems (frameEnded p s) = statusItems s := by
  cases p <;> rfl

/-- Settles O16: the three homed flags stand in the row of the other fields. -/
theorem statusAndAxesReplies : Obligations.StatusAndAxesReplies := by
  refine ⟨fun p tag s hready => ?_, fun p tag s hready => ⟨axisItems_length s, ?_⟩⟩
  · intro items
    have same : items = statusItems s := by
      unfold items statusItems homedItems phaseItems holdItems resumeStep
      simp only [List.append_assoc]
    have answered : answerGetStatus (frameEnded p s) = accepted (statusItems s) (frameEnded p s) := by
      rw [answerGetStatus, statusItems_frameEnded]
    rw [same]
    exact ⟨statusItems_length s,
      congrArg Host.Outcome.next (serve_accepted (takes_of_read (.inl rfl) hready) answered)⟩
  · exact congrArg Host.Outcome.next (serve_accepted (takes_of_read (.inl rfl) hready) rfl)

@[simp] theorem contourOf_val (c : Fin Config.contours) : contourOf c = some c := by simp [contourOf]

theorem contourOf_none {n : Nat} (h : Config.contours ≤ n) : contourOf n = none := dif_neg (Nat.not_lt.mpr h)

@[simp] theorem slotOf_val (n : Fin Config.sets) : slotOf n = some n := by simp [slotOf]

theorem slotOf_none {n : Nat} (h : Config.sets ≤ n) : slotOf n = none := dif_neg (Nat.not_lt.mpr h)

/-- Settles O17. -/
theorem contourAndSetReplies : Obligations.ContourAndSetReplies := by
  refine ⟨fun p tag c s hready => ?_, fun p tag n s hready => ?_, fun p tag n s hready => ⟨fun h => ?_, fun h => ?_⟩⟩
  · refine congrArg Host.Outcome.next (serve_accepted (takes_of_read (.inl rfl) hready) ?_)
    rw [answerGetContour, contourOf_val]
    rfl
  · refine congrArg Host.Outcome.next (serve_accepted (takes_of_read (.inl rfl) hready) ?_)
    rw [answerGetSet, slotOf_val]
    rfl
  · refine congrArg Host.Outcome.next (serve_refusedAt (takes_of_read (.inl rfl) hready) ?_)
    rw [answerGetContour, contourOf_none h]
  · refine congrArg Host.Outcome.next (serve_refusedAt (takes_of_read (.inl rfl) hready) ?_)
    rw [answerGetSet, slotOf_none h]

/-! ### The alert record -/

/-- Settles O18: a record's refill turns on the standing condition of its code. -/
theorem alertReadAndRelease : Obligations.AlertReadAndRelease := by
  intro p tag s hready
  have taken : Takes s p .releaseAlert := takes_of_read (.inl rfl) hready
  refine ⟨congrArg Host.Outcome.next (serve_accepted (takes_of_read (.inl rfl) hready) rfl), fun hnone => ?_, fun r hr => ?_⟩
  · refine congrArg Host.Outcome.next (serve_accepted taken ?_)
    have empty : releasedAlert (frameEnded p s) = none := by rw [releasedAlert, frameEnded_alert, hnone]
    rw [answerReleaseAlert, empty]
    exact congrArg _ (by rw [← hnone]; rfl)
  · intro stands
    have standing_iff : standing (frameEnded p s) r = true ↔ stands := by
      have lines : (frameEnded p s).lines = s.lines := rfl
      have jet : (frameEnded p s).jet = s.jet := rfl
      unfold standing
      rw [lines, jet]
      cases hc : r.code <;> simp only [stands, hc]
      case pump => simp
      case limit =>
        cases r.detail.axis <;> cases r.detail.side <;> simp
      case wear =>
        cases r.detail.accumulator with
        | none => simp
        | some acc => cases acc <;> simp
      all_goals simp
    have released : releasedAlert (frameEnded p s)
        = if standing (frameEnded p s) r then some (refilled (frameEnded p s) r) else none := by
      rw [releasedAlert, frameEnded_alert, hr]
    refine ⟨fun hn => ?_, fun hs => ?_⟩
    · rw [if_neg (mt standing_iff.mp hn)] at released
      refine congrArg Host.Outcome.next (serve_accepted taken ?_)
      rw [answerReleaseAlert, released]
      rfl
    · rw [if_pos (standing_iff.mpr hs)] at released
      refine congrArg Host.Outcome.next (serve_accepted taken ?_)
      rw [answerReleaseAlert, released]
      rfl

/-! ### The integer root -/

/-- Settles O29, from the library's root. -/
theorem integerRoot : Obligations.IntegerRoot := by
  intro n
  rw [isqrt_eq_sqrt]
  exact ⟨Nat.sqrt_le n, Nat.lt_succ_sqrt n⟩

end Sys2Proof.Proofs
end

section
/-! Frames (section 12.1 to 12.4): the bytes of a request are read back as that request; the receiver hands on a good
frame and drops every other one. -/

namespace Sys2Proof.Proofs

open Sys2Proof.Machine

variable {s t : State} {p : Port} {tag : Byte} {r : Request}

/-! ### Numbers among bytes -/

theorem byteAt_drop (b : List Byte) (o i : Nat) : byteAt (b.drop o) i = byteAt b (o + i) := by
  simp [byteAt, List.getD_eq_getElem?_getD]

theorem byteAt_take {b : List Byte} {i n : Nat} (h : i < n) : byteAt (b.take n) i = byteAt b i := by
  simp [byteAt, List.getD_eq_getElem?_getD, h]

theorem wordAt_drop (b : List Byte) (o i : Nat) : wordAt (b.drop o) i = wordAt b (o + i) := by
  simp only [wordAt, byteAt_drop, Nat.add_assoc]

theorem wordAt_take {b : List Byte} {i n : Nat} (h : i + 4 ≤ n) : wordAt (b.take n) i = wordAt b i := by
  simp only [wordAt]
  rw [byteAt_take (by omega), byteAt_take (by omega), byteAt_take (by omega), byteAt_take (by omega)]

theorem byteAt_oneByte {n : Nat} (h : fitsByte n = true) (rest : List Byte) : byteAt (oneByte n ++ rest) 0 = n := by
  simpa [byteAt, oneByte, fitsByte] using h

theorem wordAt_wordBytes {n : Nat} (h : fitsWord n = true) (rest : List Byte) : wordAt (wordBytes n ++ rest) 0 = n := by
  have hn : n < 4294967296 := by simpa [fitsWord] using h
  simp only [wordAt, byteAt, wordBytes, List.cons_append, List.getD_cons_zero, List.getD_cons_succ, Nat.zero_add,
    BitVec.toNat_ofNat]
  omega

/-- A byte field at its offset. -/
theorem byteAt_of_slice {b : List Byte} {i n : Nat} (hs : (b.drop i).take 1 = oneByte n) (h : fitsByte n = true) :
    byteAt b i = n := by
  rw [← Nat.add_zero i, ← byteAt_drop, ← byteAt_take Nat.zero_lt_one, hs, ← List.append_nil (oneByte n), byteAt_oneByte h]

/-- A four-byte field at its offset. -/
theorem wordAt_of_slice {b : List Byte} {i n : Nat} (hs : (b.drop i).take 4 = wordBytes n) (h : fitsWord n = true) :
    wordAt b i = n := by
  rw [← Nat.add_zero i, ← wordAt_drop, ← wordAt_take (Nat.le_refl 4), hs, ← List.append_nil (wordBytes n),
    wordAt_wordBytes h]

/-- The signed number that a word carries in two's complement. -/
def signedOf (w : Nat) : Int := if w < 2147483648 then w else (w : Int) - 4294967296

theorem signedAt_eq_signedOf (b : List Byte) (i : Nat) : signedAt b i = signedOf (wordAt b i) := rfl

theorem signedOf_word {v : Int} (h : fitsSigned v = true) : signedOf (v % 4294967296).toNat = v := by
  simp only [fitsSigned, Bool.and_eq_true, decide_eq_true_eq] at h
  unfold signedOf
  split <;> omega

theorem fitsWord_signed (v : Int) : fitsWord (v % 4294967296).toNat = true := by
  simp only [fitsWord, decide_eq_true_eq]
  omega

/-- A signed field at its offset. -/
theorem signedAt_of_slice {b : List Byte} {i : Nat} {v : Int} (hs : (b.drop i).take 4 = signedBytes v)
    (h : fitsSigned v = true) : signedAt b i = v := by
  rw [signedAt_eq_signedOf, wordAt_of_slice hs (fitsWord_signed v), signedOf_word h]

/-- The words of a run of four-byte fields, and 0 past its end. -/
theorem wordAt_words {l : List Nat} (h : l.all fitsWord = true) (k : Nat) :
    wordAt (l.flatMap wordBytes) (4 * k) = l.getD k 0 := by
  induction l generalizing k with
  | nil => simp [wordAt, byteAt]
  | cons n l ih =>
    simp only [List.all_cons, Bool.and_eq_true] at h
    cases k with
    | zero => exact wordAt_wordBytes h.1 _
    | succ k =>
      rw [show 4 * (k + 1) = 4 + 4 * k by omega, ← wordAt_drop]
      exact ih h.2 k

/-! ### Bodies -/

/-- The process set of a material code and 29 words in index order (R173). -/
def setOf (material : Nat) (w : Nat → Nat) : ProcessSet :=
  { material := material, thickness := w 0, vSep := w 1, qf1 := w 2, qf2 := w 3, qf3 := w 4, qf4 := w 5, qf5 := w 6
    rFull := w 7, fa := w 8, fl := w 9, cf0 := w 10, cf1 := w 11, cf2 := w 12, cf3 := w 13, cf4 := w 14, cf5 := w 15
    vTab := w 16, vCreep := w 17, fr := w 18, pCut := w 19, pPierce := w 20, pTab := w 21, tLow := w 22
    tRamp := w 23, tDwell := w 24, tRejoin := w 25, hPierce := w 26, hCut := w 27, backup := w 28 }

theorem readSet_eq_setOf (b : List Byte) (o : Nat) : readSet b o = setOf (byteAt b o) fun k => wordAt b (o + 1 + 4 * k) := rfl

theorem setOf_words (f : ProcessSet) : setOf f.material (fun k => f.words.getD k 0) = f := rfl

theorem readSet_setBytes {n : Nat} {f : ProcessSet} (h : f.fits = true) : readSet (oneByte n ++ setBytes f) 1 = f := by
  simp only [ProcessSet.fits, Bool.and_eq_true] at h
  obtain ⟨hmaterial, hwords⟩ := h
  have word : (fun k => wordAt (oneByte n ++ setBytes f) (1 + 1 + 4 * k)) = fun k => f.words.getD k 0 := by
    funext k
    rw [← wordAt_drop]
    exact wordAt_words hwords k
  rw [readSet_eq_setOf, word, byteAt_of_slice rfl hmaterial, setOf_words]

theorem readAxisSetup_window {b c : List Byte} {o : Nat} (h : (b.drop o).take 38 = c) :
    readAxisSetup b o = readAxisSetup c 0 := by
  have byte {i : Nat} (hi : i < 38) : byteAt b (o + i) = byteAt c (0 + i) := by
    rw [← h, Nat.zero_add, byteAt_take hi, byteAt_drop]
  have word {i : Nat} (hi : i + 4 ≤ 38) : wordAt b (o + i) = wordAt c (0 + i) := by
    rw [← h, Nat.zero_add, wordAt_take hi, wordAt_drop]
  have start : wordAt b o = wordAt c 0 := word (i := 0) (by decide)
  unfold readAxisSetup signedAt
  rw [start, word (i := 4) (by decide), word (i := 8) (by decide), word (i := 12) (by decide), word (i := 16) (by decide),
    byte (i := 20) (by decide), byte (i := 21) (by decide), word (i := 22) (by decide), word (i := 26) (by decide),
    word (i := 30) (by decide), word (i := 34) (by decide)]

theorem readAxisSetup_axisBytes {a : AxisSetup} (h : a.fits = true) : readAxisSetup (axisBytes a) 0 = a := by
  simp only [AxisSetup.fits, Bool.and_eq_true, and_assoc] at h
  obtain ⟨h1, h2, h3, h4, h5, h6, h7, h8, h9, h10, h11⟩ := h
  unfold readAxisSetup
  rw [signedAt_of_slice rfl h1, signedAt_of_slice rfl h2, wordAt_of_slice rfl h3, wordAt_of_slice rfl h4,
    wordAt_of_slice rfl h5, byteAt_of_slice rfl h6, byteAt_of_slice rfl h7, wordAt_of_slice rfl h8,
    signedAt_of_slice rfl h9, wordAt_of_slice rfl h10, wordAt_of_slice rfl h11]

/-- The Machine Setup of its axes and the 21 words after them (R178). -/
def setupOf (axes : PerAxis AxisSetup) (w : Nat → Nat) : MachineSetup :=
  { axes := axes, accel := w 0, accelHold := w 1, vPathMax := w 2, vRapid := w 3, accelRapid := w 4
    zClearance := signedOf (w 5), probeSpeed := w 6, probeTravel := w 7, nominalSurface := signedOf (w 8)
    arcTolerance := w 9, backupReach := w 10, vBackup := w 11, pumpMax := w 12, pressureBand := w 13
    settleLimit := w 14, dipAllowance := w 15, abrasiveDelay := w 16, abrasiveGrace := w 17, jogKeep := w 18
    jetTimeLimit := w 19, pierceCountLimit := w 20 }

/-- The words after the axes in a WRITE_SETUP body. -/
def setupWords (m : MachineSetup) : List Nat :=
  [m.accel, m.accelHold, m.vPathMax, m.vRapid, m.accelRapid, (m.zClearance % 4294967296).toNat, m.probeSpeed, m.probeTravel,
    (m.nominalSurface % 4294967296).toNat, m.arcTolerance, m.backupReach, m.vBackup, m.pumpMax, m.pressureBand,
    m.settleLimit, m.dipAllowance, m.abrasiveDelay, m.abrasiveGrace, m.jogKeep, m.jetTimeLimit, m.pierceCountLimit]

theorem readSetup_eq_setupOf (b : List Byte) : readSetup b
    = setupOf ⟨readAxisSetup b 0, readAxisSetup b 38, readAxisSetup b 76⟩ fun k => wordAt b (114 + 4 * k) := rfl

theorem setupBytes_eq (m : MachineSetup) : setupBytes m
    = axisBytes m.axes.x ++ (axisBytes m.axes.y ++ (axisBytes m.axes.z ++ (setupWords m).flatMap wordBytes)) := by
  unfold setupBytes setupWords signedBytes
  generalize wordBytes = word
  generalize axisBytes = axis
  simp only [List.flatMap_cons, List.flatMap_nil, List.append_assoc, List.append_nil]

theorem take_axisBytes (a : AxisSetup) (rest : List Byte) : (axisBytes a ++ rest).take 38 = axisBytes a :=
  List.take_left' (Laws.axisBytes_length a)

theorem drop_axisBytes (a : AxisSetup) (rest : List Byte) (n : Nat) : (axisBytes a ++ rest).drop (38 + n) = rest.drop n := by
  rw [← List.drop_drop]
  exact congrArg (List.drop n) (List.drop_left' (Laws.axisBytes_length a))

theorem setupOf_words {m : MachineSetup} (hz : fitsSigned m.zClearance = true) (hn : fitsSigned m.nominalSurface = true) :
    setupOf m.axes (fun k => (setupWords m).getD k 0) = m := by
  calc setupOf m.axes (fun k => (setupWords m).getD k 0)
      = { m with
          zClearance := signedOf (m.zClearance % 4294967296).toNat
          nominalSurface := signedOf (m.nominalSurface % 4294967296).toNat } := rfl
    _ = m := by rw [signedOf_word hz, signedOf_word hn]

theorem readSetup_setupBytes {m : MachineSetup} (h : m.fits = true) : readSetup (setupBytes m) = m := by
  simp only [MachineSetup.fits, Bool.and_eq_true, and_assoc] at h
  obtain ⟨hx, hy, hz, h0, h1, h2, h3, h4, h5, h6, h7, h8, hwords⟩ := h
  have axisX : readAxisSetup (setupBytes m) 0 = m.axes.x := by
    rw [readAxisSetup_window (c := axisBytes m.axes.x), readAxisSetup_axisBytes hx]
    rw [setupBytes_eq, List.drop_zero, take_axisBytes]
  have axisY : readAxisSetup (setupBytes m) 38 = m.axes.y := by
    rw [readAxisSetup_window (c := axisBytes m.axes.y), readAxisSetup_axisBytes hy]
    rw [setupBytes_eq, drop_axisBytes _ _ 0, List.drop_zero, take_axisBytes]
  have axisZ : readAxisSetup (setupBytes m) 76 = m.axes.z := by
    rw [readAxisSetup_window (c := axisBytes m.axes.z), readAxisSetup_axisBytes hz]
    rw [setupBytes_eq, drop_axisBytes _ _ 38, drop_axisBytes _ _ 0, List.drop_zero, take_axisBytes]
  have fit : (setupWords m).all fitsWord = true := by
    simp only [setupWords, List.all_cons, List.all_nil, Bool.and_true, Bool.and_eq_true, fitsWord_signed, true_and]
    exact ⟨h0, h1, h2, h3, h4, h6, h7, hwords⟩
  have words : (fun k => wordAt (setupBytes m) (114 + 4 * k)) = fun k => (setupWords m).getD k 0 := by
    funext k
    rw [← wordAt_drop, setupBytes_eq, drop_axisBytes _ _ 76, drop_axisBytes _ _ 38, drop_axisBytes _ _ 0, List.drop_zero]
    exact wordAt_words fit k
  rw [readSetup_eq_setupOf, words, axisX, axisY, axisZ, setupOf_words h5 h8]

/-! ### The entries of an APPEND -/

theorem entryDescriptor_parts {e : Entry} (h : e.classCode < 8) :
    entryDescriptor e % 8 = e.classCode ∧ (entryDescriptor e / 8 % 2 = 1 ↔ e.shape ≠ .line)
      ∧ (entryDescriptor e / 16 % 2 == 1) = e.cw ∧ fitsByte (entryDescriptor e) = true := by
  unfold entryDescriptor fitsByte
  cases e.shape <;> cases e.cw <;> simp <;> omega

theorem readEntry_entryBytes {e : Entry} {b rest : List Byte} {o : Nat} (h : e.fits = true)
    (hb : b.drop o = entryBytes e ++ rest) : readEntry b o = e := by
  simp only [Entry.fits, Bool.and_eq_true, decide_eq_true_eq, and_assoc] at h
  obtain ⟨hclass, hx, hy, hshape⟩ := h
  obtain ⟨class', shape', cw', fits'⟩ := entryDescriptor_parts hclass
  have field (i : Nat) (c : List Byte) (n : Nat) (hc : ((entryBytes e ++ rest).drop i).take n = c) :
      (b.drop (o + i)).take n = c := by
    rw [← List.drop_drop, hb, hc]
  have descriptor : byteAt b o = entryDescriptor e := byteAt_of_slice (field 0 _ 1 rfl) fits'
  have endX : signedAt b (o + 1) = e.endX := signedAt_of_slice (field 1 _ 4 rfl) hx
  have endY : signedAt b (o + 5) = e.endY := signedAt_of_slice (field 5 _ 4 rfl) hy
  unfold readEntry
  dsimp only
  rw [descriptor, class', cw', endX, endY]
  cases hs : e.shape with
  | line =>
    rw [if_neg (by simp [shape', hs])]
    rw [← hs]
  | arc cx cy =>
    rw [hs] at hshape
    simp only [Bool.and_eq_true] at hshape
    have centreX : signedAt b (o + 9) = cx :=
      signedAt_of_slice (field 9 _ 4 (by simp only [entryBytes, hs, shapeBytes]; rfl)) hshape.1
    have centreY : signedAt b (o + 13) = cy :=
      signedAt_of_slice (field 13 _ 4 (by simp only [entryBytes, hs, shapeBytes]; rfl)) hshape.2
    rw [if_pos (by simp [shape', hs]), centreX, centreY, ← hs]

theorem entryBytes_size (e : Entry) : (entryBytes e).length = entrySize e := by
  cases h : e.shape <;> simp [entryBytes, shapeBytes, entrySize, h]

/-- The walk reads the entries that a body holds from its offset on, one after the other. -/
theorem walkEntries_entries {b : List Byte} {es : List Entry} {n o : Nat} (hfits : es.all Entry.fits = true)
    (hlen : es.length ≤ n) (hb : b.drop o = es.flatMap entryBytes) (ho : o ≤ b.length) : walkEntries b n o = some es := by
  induction es generalizing n o with
  | nil =>
    have whole : o = b.length := Nat.le_antisymm ho (List.drop_eq_nil_iff.mp hb)
    cases n with
    | zero => exact if_pos whole
    | succ n => exact if_pos whole
  | cons e es ih =>
    simp only [List.all_cons, Bool.and_eq_true] at hfits
    obtain ⟨n, rfl⟩ : ∃ m, n = m + 1 := ⟨n - 1, by simp at hlen; omega⟩
    have read : readEntry b o = e := readEntry_entryBytes hfits.1 hb
    have length := congrArg List.length hb
    simp only [List.length_drop, List.flatMap_cons, List.length_append, entryBytes_size] at length
    have size : 0 < entrySize e := by unfold entrySize; split <;> decide
    have rest : b.drop (o + entrySize e) = es.flatMap entryBytes := by
      rw [← List.drop_drop, hb, List.flatMap_cons, ← entryBytes_size, List.drop_left]
    rw [walkEntries, if_neg (by omega)]
    dsimp only
    rw [read, if_neg (by omega), ih hfits.2 (by simpa using hlen) rest (by omega)]
    rfl

theorem readEntries_append {c : Nat} {es : List Entry} (h : es ≠ []) (hlen : es.length ≤ 8)
    (hfits : es.all Entry.fits = true) : readEntries (oneByte c ++ es.flatMap entryBytes) = some es := by
  have walked : walkEntries (oneByte c ++ es.flatMap entryBytes) 8 1 = some es :=
    walkEntries_entries hfits hlen rfl (by simp)
  rw [readEntries, walked]
  cases es with
  | nil => exact absurd rfl h
  | cons e es => rfl

/-! ### Requests -/

theorem code_eq_append_iff : r.code = 0x12#8 ↔ ∃ c es, r = .append c es := by
  cases r <;> simp [Request.code]

/-- A request other than APPEND is read from a body of its length. -/
theorem readRequest_fixed {n : Nat} (hr : ∀ c es, r ≠ .append c es) (hlen : fixedLength r.code.toNat = some n)
    (hread : readFields r.code.toNat r.body = some r) (hbody : r.body.length = n) : readRequest r.code r.body = .ok r := by
  have other : r.code ≠ 0x12#8 := fun hc => by
    obtain ⟨c, es, e⟩ := code_eq_append_iff.mp hc
    exact hr c es e
  rw [readRequest, if_neg other, hlen, hread]
  exact if_pos hbody

theorem requestFrames_read (hwf : (r.row p tag).wf = true) : readRequest r.code r.body = .ok r := by
  match r, hwf with
  | .append c es, hwf =>
    simp only [Request.row, Instr.wf, Bool.and_eq_true, decide_eq_true_eq] at hwf
    obtain ⟨⟨⟨hc, hmin⟩, hmax⟩, hes⟩ := hwf
    have entries : readEntries (oneByte c ++ es.flatMap entryBytes) = some es :=
      readEntries_append (by rintro rfl; simp at hmin) hmax hes
    have number : byteAt (oneByte c ++ es.flatMap entryBytes) 0 = c := byteAt_oneByte hc _
    rw [Request.body, Request.code, readRequest, if_pos rfl, entries, number]
  | .proposeSet n f, hwf =>
    simp only [Request.row, Instr.wf, Bool.and_eq_true] at hwf
    refine readRequest_fixed nofun rfl (congrArg some ?_) (by simp [Request.body])
    rw [Request.body, readSet_setBytes hwf.2, byteAt_oneByte hwf.1]
  | .writeSetup m, hwf =>
    refine readRequest_fixed nofun rfl (congrArg some ?_) (by simp [Request.body])
    rw [Request.body, readSetup_setupBytes hwf]
  | .setAccumulators a b, hwf =>
    simp only [Request.row, Instr.wf, Bool.and_eq_true] at hwf
    refine readRequest_fixed nofun rfl (congrArg some ?_) rfl
    rw [wordAt_of_slice rfl hwf.1, wordAt_of_slice rfl hwf.2]
  | .jogStep a d, hwf =>
    simp only [Request.row, Instr.wf, Bool.and_eq_true] at hwf
    refine readRequest_fixed nofun rfl (congrArg some ?_) rfl
    rw [byteAt_of_slice rfl hwf.1, signedAt_of_slice rfl hwf.2]
  | .declare c n q m u, hwf =>
    simp only [Request.row, Instr.wf, Bool.and_eq_true, and_assoc] at hwf
    obtain ⟨h1, h2, h3, h4, h5⟩ := hwf
    refine readRequest_fixed nofun rfl (congrArg some ?_) rfl
    rw [byteAt_of_slice rfl h1, byteAt_of_slice rfl h2, byteAt_of_slice rfl h3, byteAt_of_slice rfl h4,
      byteAt_of_slice rfl h5]
  | .jog a d v, hwf =>
    simp only [Request.row, Instr.wf, Bool.and_eq_true, and_assoc] at hwf
    obtain ⟨h1, h2, h3⟩ := hwf
    refine readRequest_fixed nofun rfl (congrArg some ?_) rfl
    rw [byteAt_of_slice rfl h1, byteAt_of_slice rfl h2, byteAt_of_slice rfl h3]
  | .approveSet n k, hwf | .declineSet n k, hwf =>
    simp only [Request.row, Instr.wf, Bool.and_eq_true] at hwf
    refine readRequest_fixed nofun rfl (congrArg some ?_) rfl
    rw [byteAt_of_slice rfl hwf.1, byteAt_of_slice rfl hwf.2]
  | .getContour n, hwf | .getSet n, hwf | .seal n, hwf | .clearContour n, hwf | .setOverride n, hwf | .home n, hwf =>
    refine readRequest_fixed nofun rfl (congrArg some ?_) rfl
    rw [byteAt_of_slice rfl hwf]
  | .getStatus, _ | .getAxes, _ | .getAlert, _ | .releaseAlert, _ | .clearProgram, _ | .restart, _ | .releaseFault, _ | .hold, _
  | .cycleStop, _ | .abort, _ | .cycleStart, _ | .resume, _ | .jogRefresh, _ | .jogStop, _ => rfl

theorem requestFrames_fit (hwf : (r.row p tag).wf = true) : r.body.length ≤ 240 := by
  cases r with
  | append c es =>
    simp only [Request.row, Instr.wf, Bool.and_eq_true, decide_eq_true_eq] at hwf
    obtain ⟨⟨⟨-, -⟩, hmax⟩, -⟩ := hwf
    have := Laws.entries_length es
    simp only [Request.body, List.length_append, Laws.oneByte_length]
    omega
  | proposeSet | writeSetup => simp [Request.body]
  | _ => simp [Request.body]

/-- Settles O8. -/
theorem requestFramesRoundTrip : Obligations.RequestFramesRoundTrip := fun _ _ _ hwf =>
  ⟨requestFrames_read hwf, requestFrames_fit hwf⟩

/-- Settles O9: the frame of a row is read back as its request. -/
theorem rowIsItsFrame : Obligations.RowIsItsFrame := by
  intro r p tag s hwf
  have same : (fun u => if discards (frameEnded p u) p then frameEnded p u
      else takeRequest p tag r (answer r) (frameEnded p u)) = completeRequest p tag r.code r.body := by
    funext u
    rw [completeRequest, requestFrames_read hwf]
  rw [exec_row hwf, serve, same]
  rfl

/-! ### Codes and lengths (checks 1 and 2) -/

/-- The codes that are read are those that have a length. -/
theorem fixedLength_isSome (code : Nat) (body : List Byte) : (fixedLength code).isSome = (readFields code body).isSome := by
  unfold fixedLength readFields
  split <;> rfl

/-- What is read from a code is a request with that code. -/
theorem readFields_code {n : Nat} {body : List Byte} (h : readFields n body = some r) : r.code.toNat = n := by
  unfold readFields at h
  split at h <;> cases h <;> rfl

theorem fixedLength_code (h : ∀ c es, r ≠ .append c es) : (fixedLength r.code.toNat).isSome = true := by
  cases r with
  | append c es => exact absurd rfl (h c es)
  | _ => rfl

theorem readRequest_unknown {code : Byte} (body : List Byte) (h : ∀ r : Request, r.code ≠ code) :
    readRequest code body = .error .unknownRequest := by
  have none : readFields code.toNat body = none := by
    by_contra hne
    obtain ⟨r, hr⟩ := Option.ne_none_iff_exists'.mp hne
    exact h r (BitVec.eq_of_toNat_eq (readFields_code hr))
  rw [readRequest, if_neg fun hc => h (.append 0 []) hc.symm, none]
  cases fixedLength code.toNat <;> rfl

theorem readRequest_malformed {body : List Byte} (h : ∀ c es, r ≠ .append c es)
    (hlen : body.length ≠ (fixedLength r.code.toNat).getD 0) : readRequest r.code body = .error .malformed := by
  obtain ⟨n, hn⟩ := Option.isSome_iff_exists.mp (fixedLength_code h)
  obtain ⟨r', hr'⟩ := Option.isSome_iff_exists.mp ((fixedLength_isSome _ body).symm.trans (fixedLength_code h))
  have other : r.code ≠ 0x12#8 := fun hc => by
    obtain ⟨c, es, e⟩ := code_eq_append_iff.mp hc
    exact h c es e
  rw [hn] at hlen
  rw [readRequest, if_neg other, hn, hr']
  exact if_neg hlen

/-- A frame that fails check 1 or 2 is answered on a port that serves it. -/
theorem exec_unread {code : Byte} {body : List Byte} {st : Status} (hready : Ready s p)
    (h : readRequest code body = .error st) :
    exec (.unknownRequest p tag code body) s = .next (sendReply p tag st [] (frameEnded p s)) := by
  obtain ⟨hlive, hd⟩ := hready
  refine congrArg Host.Outcome.next ?_
  rw [live_live s _ hlive, completeRequest, h]
  exact if_neg (by simp [hd])

/-- Settles O10. -/
theorem unknownAndMalformed : Obligations.UnknownAndMalformed := by
  refine fun p tag code body s hready => ⟨fun h => exec_unread hready (readRequest_unknown body h), ?_, ?_⟩
  · rintro r rfl hr hlen
    exact exec_unread hready (readRequest_malformed hr hlen)
  · rintro rfl hnone
    refine exec_unread hready ?_
    rw [readRequest, if_pos rfl, hnone]

/-! ### The receiver -/

/-- The port's receiver is inside a frame, with the bytes that it has stored. -/
def inFrame (p : Port) (bytes : List Byte) (s : State) : State :=
  s.onPort p fun q => { q with rx := .frame, bytes := bytes, timer := .running 20 }

/-- The characters of a run of bytes on a port, each with its stop bit. -/
def characters (p : Port) (bytes : List Byte) : List Instr := bytes.map fun b => .characterReceived p b true

theorem exec_character (h : Live s) (p : Port) (b : Byte) (stopBit : Bool) :
    exec (.characterReceived p b stopBit) s = .next (characterTaken p b stopBit s) :=
  congrArg Host.Outcome.next (live_live s _ h)

theorem inFrame_live {bytes : List Byte} (h : Live s) : Live (inFrame p bytes s) := h

theorem inFrame_port (p : Port) (bytes : List Byte) (s : State) :
    ((inFrame p bytes s).ports.port p).rx = .frame ∧ ((inFrame p bytes s).ports.port p).bytes = bytes := by
  cases p <;> exact ⟨rfl, rfl⟩

theorem frameEnded_inFrame (p : Port) (bytes : List Byte) (s : State) :
    frameEnded p (inFrame p bytes s) = frameEnded p s := by
  cases p <;> rfl

/-- The end of a frame does not depend on how far the receiver had come. -/
theorem frameWhole_inFrame (p : Port) (bytes stored : List Byte) (s : State) :
    frameWhole p bytes (inFrame p stored s) = frameWhole p bytes s := by
  unfold frameWhole completeRequest
  rw [frameEnded_inFrame]

theorem inFrame_store (p : Port) (bytes stored : List Byte) (s : State) :
    ((inFrame p stored s).onPort p fun q => { q with bytes := bytes }) = inFrame p bytes s := by
  cases p <;> rfl

/-- A start mark outside a frame begins one. -/
theorem characterTaken_start (h : (s.ports.port p).rx ≠ .frame) :
    characterTaken p 0xA7#8 true s = inFrame p [0xA7#8] s := by
  unfold characterTaken
  split
  · next e _ => exact absurd e h
  · next e => exact nomatch e
  · exact if_pos rfl
  · exact if_pos rfl
  · next e => exact nomatch e
  · next e => exact nomatch e

theorem characterTaken_inFrame (p : Port) (b : Byte) (stored : List Byte) (s : State) :
    characterTaken p b true (inFrame p stored s)
      = if (stored ++ [b]).length = 2 && Config.maxBody < b.toNat then huntAgain p (inFrame p stored s)
        else if 2 ≤ (stored ++ [b]).length && (stored ++ [b]).length = 7 + byteAt (stored ++ [b]) 1 then
          frameWhole p (stored ++ [b]) s
        else inFrame p (stored ++ [b]) s := by
  obtain ⟨rx, bytes⟩ := inFrame_port p stored s
  unfold characterTaken
  rw [rx]
  dsimp only
  unfold byteInFrame
  rw [bytes]
  dsimp only
  rw [frameWhole_inFrame, inFrame_store]

theorem byteAt_append {a b : List Byte} {i : Nat} (h : i < a.length) : byteAt (a ++ b) i = byteAt a i := by
  simp [byteAt, List.getD_eq_getElem?_getD, List.getElem?_append_left h]

/-- The rest of a frame, from inside it: the last character hands the whole of it on. -/
theorem runAll_restOfFrame {stored rest : List Byte} (hlive : Live s) (hstored : 1 ≤ stored.length) (hrest : rest ≠ [])
    (hwhole : (stored ++ rest).length = 7 + byteAt (stored ++ rest) 1) (hmax : byteAt (stored ++ rest) 1 ≤ 240) :
    runAll (characters p rest) (inFrame p stored s) = .next (frameWhole p (stored ++ rest) s) := by
  induction rest generalizing stored with
  | nil => exact absurd rfl hrest
  | cons b rest ih =>
    have split : stored ++ b :: rest = (stored ++ [b]) ++ rest := by simp
    have two : 1 < (stored ++ [b]).length := by simp; omega
    rw [split, byteAt_append two] at hmax hwhole
    have short : ¬ ((stored ++ [b]).length = 2 && decide (Config.maxBody < b.toNat)) = true := by
      simp only [Bool.and_eq_true, decide_eq_true_eq, not_and, Nat.not_lt]
      intro h2
      have one : stored.length = 1 := by simpa using h2
      have second : byteAt (stored ++ [b]) 1 = b.toNat := by
        simp [byteAt, List.getD_eq_getElem?_getD, one]
      exact second ▸ hmax
    have taken := characterTaken_inFrame p b stored s
    rw [if_neg short] at taken
    unfold characters
    rw [List.map_cons, runAll, exec_character (inFrame_live hlive), taken]
    cases rest with
    | nil =>
      rw [if_pos (by simpa [hstored] using hwhole)]
      rfl
    | cons b' rest =>
      rw [if_neg fun hw => ?_]
      · dsimp only
        rw [split]
        exact ih (by simp) (by simp) (by rw [byteAt_append two]; exact hwhole) (by rw [byteAt_append two]; exact hmax)
      · simp only [Bool.and_eq_true, decide_eq_true_eq] at hw
        rw [List.length_append] at hwhole
        simp only [List.length_cons] at hwhole
        omega

/-- The bytes of a frame with any kind and any two check bytes. -/
def wholeFrame (kind tag code c0 c1 : Byte) (body : List Byte) : List Byte :=
  0xA7#8 :: BitVec.ofNat 8 body.length :: kind :: tag :: code :: (body ++ [c0, c1])

/-- Its characters, taken one after the other outside a frame, hand the whole of it on. -/
theorem runAll_wholeFrame {kind code c0 c1 : Byte} {body : List Byte} (hlive : Live s)
    (hrx : (s.ports.port p).rx ≠ .frame) (hbody : body.length ≤ 240) :
    runAll (characters p (wholeFrame kind tag code c0 c1 body)) s
      = .next (frameWhole p (wholeFrame kind tag code c0 c1 body) s) := by
  have length : byteAt (wholeFrame kind tag code c0 c1 body) 1 = body.length := by
    simp only [wholeFrame, byteAt, List.getD_cons_succ, List.getD_cons_zero, BitVec.toNat_ofNat]
    omega
  unfold characters
  rw [wholeFrame, List.map_cons, runAll, exec_character hlive, characterTaken_start hrx]
  refine runAll_restOfFrame (stored := [0xA7#8]) hlive (Nat.le_refl 1) (by simp) ?_ ?_
  · refine Eq.trans ?_ (congrArg (7 + ·) length.symm)
    simp
    omega
  · exact length.trans_le hbody

theorem frameGood_wholeFrame (kind tag code c0 c1 : Byte) (body : List Byte) :
    frameGood (wholeFrame kind tag code c0 c1 body)
      = ([c0, c1] == checkBytes (BitVec.ofNat 8 body.length :: kind :: tag :: code :: body) && kind == 0x01#8) := by
  have check : (wholeFrame kind tag code c0 c1 body).drop (body.length + 5) = [c0, c1] := by
    simp [wholeFrame]
  have covered : ((wholeFrame kind tag code c0 c1 body).drop 1).take (body.length + 4)
      = BitVec.ofNat 8 body.length :: kind :: tag :: code :: body := by
    simp [wholeFrame]
  have length : (wholeFrame kind tag code c0 c1 body).length = body.length + 7 := by simp [wholeFrame]
  unfold frameGood
  dsimp only
  rw [length, show body.length + 7 - 2 = body.length + 5 by omega, show body.length + 7 - 3 = body.length + 4 by omega,
    check, covered]
  rfl

/-- Settles O6: the last character of a good frame finds it whole. -/
theorem receivedFrameIsServed : Obligations.ReceivedFrameIsServed := by
  refine ⟨fun p tag code body s hlive hrx hbody => ?_, fun p s hlive hrx => ?_⟩
  · obtain ⟨c0, c1, hc⟩ : ∃ c0 c1, checkBytes (BitVec.ofNat 8 body.length :: 0x01#8 :: tag :: code :: body) = [c0, c1] :=
      ⟨_, _, rfl⟩
    have bytes : frame 0x01#8 tag code body = wholeFrame 0x01#8 tag code c0 c1 body := by
      unfold frame
      dsimp only
      rw [hc]
      rfl
    have read : ((wholeFrame 0x01#8 tag code c0 c1 body).drop 5).take (byteAt (wholeFrame 0x01#8 tag code c0 c1 body) 1)
        = body := by
      have length : (BitVec.ofNat 8 body.length).toNat = body.length := by
        rw [BitVec.toNat_ofNat]
        omega
      simp [wholeFrame, byteAt, length]
    rw [bytes]
    refine (runAll_wholeFrame hlive hrx hbody).trans (congrArg Host.Outcome.next ?_)
    rw [frameWhole, if_pos (by rw [frameGood_wholeFrame, hc]; simp), read]
    rfl
  · rw [exec_character hlive, characterTaken_start hrx]
    rfl

/-- A character without a stop bit is dropped in every state of the receiver. -/
theorem characterTaken_noStop (p : Port) (b : Byte) (s : State) : characterTaken p b false s = huntAgain p s := by
  unfold characterTaken
  split
  · next e => exact nomatch e
  · rfl
  · next e => exact nomatch e
  · next e => exact nomatch e
  · rfl
  · rfl

/-- Settles O7. -/
theorem badFramesAreDropped : Obligations.BadFramesAreDropped := by
  refine ⟨fun p kind tag code c0 c1 body s hlive hrx hbody hbad => ?_, fun p b s hlive hrx hb => ?_, fun p b s hlive => ?_,
    fun p b s hlive hrx hone hb => ?_, fun p s hlive => ?_⟩
  · refine (runAll_wholeFrame hlive hrx hbody).trans (congrArg Host.Outcome.next ?_)
    rw [frameWhole, if_neg]
    rw [frameGood_wholeFrame]
    simpa [imp_iff_not_or] using hbad
  · rw [exec_character hlive]
    unfold characterTaken
    rw [hrx]
    exact congrArg _ (if_neg hb)
  · rw [exec_character hlive, characterTaken_noStop]
    rfl
  · rw [exec_character hlive]
    unfold characterTaken
    rw [hrx]
    exact congrArg _ (if_pos (by simp [hone, Config.maxBody, hb]))
  · exact congrArg _ (live_live s _ hlive)

end Sys2Proof.Proofs
end

section
/-! The Setup Store's requests: proposals and approvals, WRITE_SETUP and SET_ACCUMULATORS. -/

namespace Sys2Proof.Proofs

open Sys2Proof.Machine

variable {s t : State} {p : Port} {tag : Byte} {r : Request}

/-! ### Proposals -/

@[simp] theorem slotInUse_frameEnded (p : Port) (s : State) (n : Fin Config.sets) :
    slotInUse (frameEnded p s) n = slotInUse s n := rfl

theorem answerProposeSet_range {n : Fin Config.sets} {f : ProcessSet} {i : Nat} (h : firstFailure 1 (setRanges f) = some i) :
    answerProposeSet n f s = refusedAt .range i s := by
  rw [answerProposeSet, slotOf_val]
  dsimp only
  rw [h]

theorem answerProposeSet_inconsistent {n : Fin Config.sets} {f : ProcessSet} {i : Nat}
    (h : firstFailure 1 (setRanges f) = none)
    (ho : qualityOrder f = some i ∨ (qualityOrder f = none ∧ cornerOrder f = some i)) :
    answerProposeSet n f s = refusedAt .inconsistent i s := by
  rw [answerProposeSet, slotOf_val]
  dsimp only
  rw [h]
  obtain hq | ⟨hq, hc⟩ := ho
  · rw [hq]
  · rw [hq, hc]

theorem answerProposeSet_ordered {n : Fin Config.sets} {f : ProcessSet} (h : firstFailure 1 (setRanges f) = none)
    (hq : qualityOrder f = none) (hc : cornerOrder f = none) :
    answerProposeSet n f s = if slotInUse s n then refused .inUse s
      else accepted (num1 n ++ num1 (nextProposal s.setups.sets[n].number))
        (s.setSlot n { number := nextProposal s.setups.sets[n].number, content := .proposed f }) := by
  rw [answerProposeSet, slotOf_val]
  dsimp only
  rw [h, hq, hc]

theorem answerProposeSet_none {n : Nat} {f : ProcessSet} (h : Config.sets ≤ n) :
    answerProposeSet n f s = refusedAt .range 0 s := by
  rw [answerProposeSet, slotOf_none h]

theorem judgeProposal_none {n k : Nat} {items : List Item} {take : ProcessSet → SetContent} (h : Config.sets ≤ n) :
    judgeProposal n k items take s = refusedAt .range 0 s := by
  rw [judgeProposal, slotOf_none h]

theorem judgeProposal_proposed {n : Fin Config.sets} {items : List Item} {take : ProcessSet → SetContent}
    {f : ProcessSet} (h : s.setups.sets[n].content = .proposed f) :
    judgeProposal n s.setups.sets[n].number items take s
      = accepted items (s.setSlot n { s.setups.sets[n] with content := take f }) := by
  rw [judgeProposal, slotOf_val]
  dsimp only
  rw [h]
  exact if_neg (not_not_intro rfl)

/-- The status by which APPROVE_SET and DECLINE_SET refuse a slot's content. -/
def contentRefusal : SetContent → Status
  | .empty => .noSuch
  | .approved _ => .wrongState
  | .proposed _ => .superseded

theorem judgeProposal_refused {n : Fin Config.sets} {k : Nat} {items : List Item} {take : ProcessSet → SetContent}
    (h : ∀ f, s.setups.sets[n].content = .proposed f → k ≠ s.setups.sets[n].number) :
    judgeProposal n k items take s = refused (contentRefusal s.setups.sets[n].content) s := by
  rw [judgeProposal, slotOf_val]
  dsimp only
  cases hc : s.setups.sets[n].content with
  | empty => rfl
  | approved f => rfl
  | proposed f => exact if_pos (h f hc)

/-- Settles O19. -/
theorem proposalsAndApprovals : Obligations.ProposalsAndApprovals := by
  refine ⟨fun tag n f s hready hr hq hc => ⟨fun hfree => ?_, fun hused => ?_⟩, fun tag n i f s hready hr => ?_,
    fun tag n i f s hready hr => fun ho => ?_, fun tag n k f s hn => ⟨fun hready => ?_, fun hready => ⟨?_, ?_⟩⟩,
    fun tag n k f s hready hf hk => ⟨?_, ?_⟩, fun tag n k s hready hno => ⟨?_, ?_⟩⟩
  · have ordered := answerProposeSet_ordered (s := frameEnded .cell s) (n := n) hr hq hc
    rw [slotInUse_frameEnded, hfree] at ordered
    exact congrArg Host.Outcome.next (serve_accepted (takes_of_program rfl hready) ordered)
  · have ordered := answerProposeSet_ordered (s := frameEnded .cell s) (n := n) hr hq hc
    rw [slotInUse_frameEnded, hused] at ordered
    exact congrArg Host.Outcome.next (serve_refused_by_owner (takes_of_program rfl hready) ordered)
  · exact congrArg Host.Outcome.next (serve_refusedAt (takes_of_program rfl hready) (answerProposeSet_range hr))
  · exact congrArg Host.Outcome.next (serve_refusedAt (takes_of_program rfl hready) (answerProposeSet_inconsistent hr ho))
  · exact congrArg Host.Outcome.next (serve_refusedAt (takes_of_program rfl hready) (answerProposeSet_none hn))
  · exact congrArg Host.Outcome.next (serve_refusedAt (takes_of_operator rfl hready) (judgeProposal_none hn))
  · exact congrArg Host.Outcome.next (serve_refusedAt (takes_of_operator rfl hready) (judgeProposal_none hn))
  · subst hk
    exact congrArg Host.Outcome.next (serve_accepted (takes_of_operator rfl hready) (judgeProposal_proposed hf))
  · subst hk
    exact congrArg Host.Outcome.next (serve_accepted (takes_of_operator rfl hready) (judgeProposal_proposed hf))
  · exact congrArg Host.Outcome.next (serve_refused_by_owner (takes_of_operator rfl hready) (judgeProposal_refused hno))
  · exact congrArg Host.Outcome.next (serve_refused_by_owner (takes_of_operator rfl hready) (judgeProposal_refused hno))

/-! ### Wear limits -/

theorem wearMark_eq (limit : MachineSetup → Nat) (v : Nat) (s : State) :
    wearMark s limit v
      = ((s.setups.setup.map limit).getD 0 != 0 && decide ((s.setups.setup.map limit).getD 0 ≤ v)) := by
  unfold wearMark
  cases s.setups.setup <;> rfl

/-- Settles O21: both limits are tested on the loaded values. -/
theorem accumulatorsLoaded : Obligations.AccumulatorsLoaded := by
  intro tag seconds pierces s htakes
  dsimp only
  refine congrArg Host.Outcome.next (serve_accepted htakes ?_)
  unfold answerSetAccumulators
  dsimp only
  rw [testWear_eq, wearMark_eq, wearMark_eq]
  simp only [State.onJet_setups, State.onJet_jet, frameEnded_setups, Nat.mul_div_cancel _ (show 0 < 1000 by decide)]
  rfl

/-! ### The Machine Setup -/

theorem programHeld_iff : programHeld s = true ↔
    ∃ c r, s.contour? c = some r ∧ (r.status = .loading ∨ r.status = .sealed ∨ r.status = .active) := by
  have holds (r : Contour) : r.status.holds = true ↔ r.status = .loading ∨ r.status = .sealed ∨ r.status = .active := by
    cases r.status <;> simp [ContourStatus.holds]
  unfold programHeld
  rw [List.any_eq_true]
  refine exists_congr fun c => ?_
  cases s.contour? c with
  | none => simp
  | some r => simp [holds]

theorem answerWriteSetup_wrongState {m : MachineSetup}
    (h : (s.cyc.mstate ≠ .unconfigured ∧ s.cyc.mstate ≠ .idle) ∨ programHeld s = true) :
    answerWriteSetup m s = refused .wrongState s := by
  unfold answerWriteSetup
  split
  · rfl
  · next hm => exact if_pos (h.resolve_left fun hn => hm (by simp [hn]))

theorem answerWriteSetup_checked {m : MachineSetup} (hm : s.cyc.mstate = .unconfigured ∨ s.cyc.mstate = .idle)
    (hh : programHeld s = false) : answerWriteSetup m s =
      match firstFailure 1 (setupRanges m), setupInconsistency m with
      | some i, _ => refusedAt .range i s
      | none, some i => refusedAt .inconsistent i s
      | none, none => { accepted (homedItems (installSetup m s)) (installSetup m s) with after := followingCheckAll } := by
  have hm' : ¬ (decide (s.cyc.mstate ≠ .unconfigured) && decide (s.cyc.mstate ≠ .idle)) = true := by
    obtain e | e := hm <;> simp [e]
  unfold answerWriteSetup
  rw [if_neg hm']
  exact if_neg (by simp [hh])

/-- A machine state without a phase is entered with the jet shut. -/
theorem enterState_noPhase (m : MachineState) (s : State) :
    enterState m none s = { s with
      cyc := { s.cyc with mstate := m, phase := none }
      jet := s.jet.shut (bandAfter 0 { s with cyc := { s.cyc with mstate := m, phase := none } }) } := by
  rw [enterState_closed _ _ _ (by simp [valvesAllowed]), closeJet_shut _ (by simp [preCharge])]

/-- The axes that a WRITE_SETUP leaves (R181). -/
def setupAxes (m : MachineSetup) (s : State) : PerAxis Channel :=
  ⟨{ s.axes.x with homed := keepsHomed s.setups.setup m .x s.axes.x },
    { s.axes.y with homed := keepsHomed s.setups.setup m .y s.axes.y },
    { s.axes.z with homed := keepsHomed s.setups.setup m .z s.axes.z }⟩

theorem setupAxes_get (m : MachineSetup) (s : State) (a : Axis) :
    (setupAxes m s).get a = { s.chan a with homed := keepsHomed s.setups.setup m a (s.chan a) } := by
  cases a <;> rfl

/-- The Machine Setup is taken (R181), with the jet shut, before the wear limits are tested. -/
def setupTaken (m : MachineSetup) (band : Bool) (s : State) : State :=
  { s with
    setups := { s.setups with setup := some m }
    axes := setupAxes m s
    cyc := { s.cyc with mstate := .idle, phase := none, surface := some m.nominalSurface }
    jet := s.jet.shut band }

theorem installSetup_eq (m : MachineSetup) (s : State) : ∃ b, installSetup m s = testWear (setupTaken m b s) := by
  unfold installSetup
  dsimp only
  rw [enterState_noPhase]
  exact ⟨_, rfl⟩

/-- Settles O20. -/
theorem writeSetupTaken : Obligations.WriteSetupTaken := by
  refine ⟨fun tag m s htakes hm hheld hr hi hdev => ?_, fun tag m s htakes => ?_⟩
  · have fine : answerWriteSetup m (frameEnded .cell s) = { accepted (homedItems (installSetup m (frameEnded .cell s)))
        (installSetup m (frameEnded .cell s)) with after := followingCheckAll } := by
      rw [answerWriteSetup_checked (s := frameEnded .cell s) hm hheld, hr, hi]
    obtain ⟨b, hb⟩ := installSetup_eq m (frameEnded .cell s)
    have within (u : State) (hu : u.setups.setup = some m) (ha : u.axes = setupAxes m s) : followingCheckAll u = u := by
      refine followingCheckAll_within u fun a => ?_
      have same : (u.chan a).deviation = (s.chan a).deviation := by
        rw [State.chan, ha, setupAxes_get]
        rfl
      simp [beyondLimit, hu, same, hdev a]
    refine ⟨installSetup m (frameEnded .cell s), ?_, ?_, fun a => ?_⟩
    · refine congrArg Host.Outcome.next ?_
      rw [serve_taken s _ _ _ _ htakes, fine]
      refine within _ ?_ ?_
      · rw [hb, testWear_eq]
        rfl
      · rw [hb, testWear_eq]
        rfl
    · rw [hb, testWear_eq, wearMark_eq, wearMark_eq]
      rfl
    · rw [hb, testWear_eq, State.chan]
      exact setupAxes_get m s a
  · intro held settled
    have heldBy : held ↔ programHeld (frameEnded .cell s) = true := programHeld_iff.symm
    have checked (hs : settled) := answerWriteSetup_checked (m := m) (s := frameEnded .cell s) hs.1
      (by simpa [heldBy] using hs.2)
    refine ⟨fun h => ?_, fun i hs hr => ?_, fun i hs hr hi => ?_⟩
    · exact congrArg Host.Outcome.next (serve_refused_by_owner htakes
        (answerWriteSetup_wrongState (h.imp_right heldBy.mp)))
    · exact congrArg Host.Outcome.next (serve_refusedAt htakes ((checked hs).trans (by rw [hr])))
    · exact congrArg Host.Outcome.next (serve_refusedAt htakes ((checked hs).trans (by rw [hr, hi])))

end Sys2Proof.Proofs
end

section
/-! The Program Store's requests: DECLARE, APPEND, SEAL and CLEAR_CONTOUR. -/

namespace Sys2Proof.Proofs

open Sys2Proof.Machine

variable {s t : State} {p : Port} {tag : Byte} {r : Request}

/-! ### DECLARE -/

@[simp] theorem contour?_frameEnded (p : Port) (s : State) (c : Fin Config.contours) :
    (frameEnded p s).contour? c = s.contour? c := rfl

@[simp] theorem loading_frameEnded (p : Port) (s : State) : (frameEnded p s).loading = s.loading := rfl

@[simp] theorem segmentsOf_frameEnded (p : Port) (s : State) (c : Fin Config.contours) :
    (frameEnded p s).segmentsOf c = s.segmentsOf c := rfl

@[simp] theorem freeSlots_frameEnded (p : Port) (s : State) : (frameEnded p s).freeSlots = s.freeSlots := rfl

@[simp] theorem pierceMethod_ofCode (m : PierceMethod) : PierceMethod.ofCode m.number = some m := by cases m <;> rfl

@[simp] theorem surfaceMode_ofCode (m : SurfaceMode) : SurfaceMode.ofCode m.number = some m := by cases m <;> rfl

theorem pierceMethod_isSome {n : Nat} : (PierceMethod.ofCode n).isSome = decide (n ≤ 2) := by
  match n with
  | 0 | 1 | 2 => rfl
  | n + 3 => rfl

theorem surfaceMode_isSome {n : Nat} : (SurfaceMode.ofCode n).isSome = decide (n ≤ 1) := by
  match n with
  | 0 | 1 => rfl
  | n + 2 => rfl

theorem pierceMethod_exists {n : Nat} (h : n ≤ 2) : ∃ m : PierceMethod, n = m.number :=
  match n, h with
  | 0, _ => ⟨.static, rfl⟩
  | 1, _ => ⟨.creep, rfl⟩
  | 2, _ => ⟨.drilled, rfl⟩

theorem surfaceMode_exists {n : Nat} (h : n ≤ 1) : ∃ m : SurfaceMode, n = m.number :=
  match n, h with
  | 0, _ => ⟨.probe, rfl⟩
  | 1, _ => ⟨.carry, rfl⟩

theorem declareRanges_eq (c n q pm sm : Nat) : declareRanges c n q pm sm
    = [decide (c ≤ 31), decide (n ≤ 7), decide (1 ≤ q ∧ q ≤ 5), decide (pm ≤ 2), decide (sm ≤ 1)] := by
  have contours : decide (c < Config.contours) = decide (c ≤ 31) := decide_eq_decide.mpr Nat.lt_succ_iff
  have sets : decide (n < Config.sets) = decide (n ≤ 7) := decide_eq_decide.mpr Nat.lt_succ_iff
  rw [declareRanges, contours, sets, pierceMethod_isSome, surfaceMode_isSome, Bool.decide_and]

/-- With its fields in range a DECLARE goes on to the conditions on the state. -/
theorem answerDeclare_inRange {c : Fin Config.contours} {n : Fin Config.sets} {q : Nat} {pm : PierceMethod} {sm : SurfaceMode}
    (hm : s.cyc.mstate ≠ .unconfigured) (h1 : 1 ≤ q) (h5 : q ≤ 5) :
    answerDeclare c n q pm.number sm.number s = declareChecked c n q pm sm s := by
  have fine : firstFailure 1 (declareRanges c n q pm.number sm.number) = none := by
    have hpm : pm.number ≤ 2 := by cases pm <;> decide
    have hsm : sm.number ≤ 1 := by cases sm <;> decide
    rw [declareRanges_eq]
    simp [firstFailure, h1, h5, hpm, hsm, Nat.lt_succ_iff.mp c.isLt, Nat.lt_succ_iff.mp n.isLt]
  unfold answerDeclare
  rw [if_neg hm, fine, contourOf_val, slotOf_val, pierceMethod_ofCode, surfaceMode_ofCode]

theorem answerDeclare_range {c n q pm sm i : Nat} (hm : s.cyc.mstate ≠ .unconfigured)
    (h : firstFailure 1 (declareRanges c n q pm sm) = some i) : answerDeclare c n q pm sm s = refusedAt .range i s := by
  unfold answerDeclare
  rw [if_neg hm, h]
  rfl

theorem setConflicts_iff {m : MachineSetup} {f : ProcessSet} : setConflicts m f = true ↔
    m.pumpMax < f.pCut ∨ m.backupReach < f.backup ∨ m.axes.z.softMax < m.nominalSurface + f.hPierce
      ∨ m.axes.z.softMax < m.nominalSurface + f.hCut := by
  simp [setConflicts, or_assoc]

/-- Conditions 5 and 6 of R3, on a record that is FREE while no other one is LOADING. -/
def declareApproved (c : Fin Config.contours) (n : Fin Config.sets) (q : Nat) (pm : PierceMethod) (sm : SurfaceMode)
    (s : State) : Answer :=
  match s.setups.sets[n].content, s.setups.setup with
  | .approved f, some m =>
    if setConflicts m f then refused .setConflict s else accepted [] (s.setContour c (some (Contour.declared n q pm sm)))
  | .approved _, none => refused .setConflict s
  | .empty, _ | .proposed _, _ => refused .notApproved s

section
variable {c : Fin Config.contours} {n : Fin Config.sets} {q : Nat} {pm : PierceMethod} {sm : SurfaceMode}
  {f : ProcessSet} {m : MachineSetup}

theorem declareChecked_free (hl : s.loading = none) (hc : s.contour? c = none) :
    declareChecked c n q pm sm s = declareApproved c n q pm sm s := by
  rw [declareChecked, if_neg (by simp [hl])]
  exact if_neg (by simp [hc])

theorem declareApproved_some (hf : s.setups.sets[n].content = .approved f) (hm : s.setups.setup = some m) :
    declareApproved c n q pm sm s = if setConflicts m f then refused .setConflict s
      else accepted [] (s.setContour c (some (Contour.declared n q pm sm))) := by
  rw [declareApproved, hf, hm]

theorem declareApproved_none (hf : s.setups.sets[n].content = .approved f) (hm : s.setups.setup = none) :
    declareApproved c n q pm sm s = refused .setConflict s := by
  rw [declareApproved, hf, hm]

theorem declareApproved_notApproved (h : ∀ f, s.setups.sets[n].content ≠ .approved f) :
    declareApproved c n q pm sm s = refused .notApproved s := by
  unfold declareApproved
  cases hc : s.setups.sets[n].content with
  | approved f => exact absurd hc (h f)
  | empty => rfl
  | proposed f => rfl

theorem isApproved_of {t : SetSlot} (h : t.content = .approved f) : t.isApproved = true := by
  rw [SetSlot.isApproved, h]

theorem isApproved_exists (h : s.setups.sets[n].isApproved = true) : ∃ f, s.setups.sets[n].content = .approved f := by
  unfold SetSlot.isApproved at h
  split at h
  · next f hf => exact ⟨f, hf⟩
  · exact nomatch h
  · exact nomatch h

end

/-- Settles O22: the conditions on the state in their order. -/
theorem declare : Obligations.Declare := by
  refine ⟨fun tag c n q pm sm m f s hready hm h1 h5 hl hc hf hs hpump hback hpierce hcut => ?_,
    fun tag c n q pm sm s hready hm => ?_, fun tag c n q pm sm i s hready hm hi => ?_,
    fun tag c n q pm sm s hready hm h1 h5 hpm hsm => ?_⟩
  · have agrees : setConflicts m f = false := by
      rw [Bool.eq_false_iff, ne_eq, setConflicts_iff]
      omega
    refine congrArg Host.Outcome.next (serve_accepted (takes_of_program rfl hready) ?_)
    rw [answerDeclare_inRange (s := frameEnded .cell s) hm h1 h5, declareChecked_free (s := frameEnded .cell s) hl hc,
      declareApproved_some (s := frameEnded .cell s) hf hs]
    exact if_neg (by simp [agrees])
  · exact congrArg Host.Outcome.next (serve_refused_by_owner (takes_of_program rfl hready) (if_pos hm))
  · refine congrArg Host.Outcome.next (serve_refusedAt (takes_of_program rfl hready) ?_)
    exact answerDeclare_range hm (by rw [declareRanges_eq, hi])
  · obtain ⟨pm, rfl⟩ := pierceMethod_exists hpm
    obtain ⟨sm, rfl⟩ := surfaceMode_exists hsm
    have checked := answerDeclare_inRange (s := frameEnded .cell s) (c := c) (n := n) (pm := pm) (sm := sm) hm h1 h5
    have refusal {st : Status} (h : declareChecked c n q pm sm (frameEnded .cell s) = refused st (frameEnded .cell s)) :
        exec (.declare .cell tag c n q pm.number sm.number) s = .next (sendReply .cell tag st [] (frameEnded .cell s)) :=
      congrArg Host.Outcome.next (serve_refused_by_owner (takes_of_program rfl hready) (checked.trans h))
    refine ⟨fun hl => refusal ?_, fun hl hc => refusal ?_, fun hl hc hn => refusal ?_,
      fun hl hc f m hf hs hconf => refusal ?_, fun hl hc ha hs => refusal ?_⟩
    · exact if_pos (by simpa [Option.isSome_iff_ne_none] using hl)
    · rw [declareChecked, if_neg (by simp [hl])]
      exact if_pos (by simpa [Option.isSome_iff_ne_none] using hc)
    · rw [declareChecked_free (s := frameEnded .cell s) hl hc]
      exact declareApproved_notApproved fun f hf => Bool.eq_false_iff.mp hn (isApproved_of hf)
    · rw [declareChecked_free (s := frameEnded .cell s) hl hc, declareApproved_some (s := frameEnded .cell s) hf hs]
      exact if_pos (setConflicts_iff.mpr hconf)
    · rw [declareChecked_free (s := frameEnded .cell s) hl hc]
      obtain ⟨f, hf⟩ := isApproved_exists ha
      exact declareApproved_none hf hs

/-! ### APPEND -/

theorem newSegments_forall (c : Fin Config.contours) (seq : Nat) (kept : List (SegClass × Computed)) :
    ∀ g ∈ newSegments c seq kept, g.state = .loaded ∧ g.contour = c ∧ g.plan = none := by
  induction kept generalizing seq with
  | nil => exact fun g hg => absurd hg List.not_mem_nil
  | cons e kept ih =>
    intro g hg
    obtain rfl | hg := List.mem_cons.mp hg
    · exact ⟨rfl, rfl, rfl⟩
    · exact ih (seq + 1) g hg

theorem newSegments_jets (c : Fin Config.contours) (seq : Nat) (kept : List (SegClass × Computed)) :
    ((newSegments c seq kept).filter fun g => g.cls.isJet).length = (kept.filter fun k => k.1.isJet).length := by
  induction kept generalizing seq with
  | nil => rfl
  | cons e kept ih =>
    rw [newSegments, List.filter_cons, List.filter_cons, apply_ite List.length, apply_ite List.length]
    simp [ih]

theorem storeSegments_eq {c : Fin Config.contours} {k : Contour} (h : s.contour? c = some k)
    (kept : List (SegClass × Computed)) : storeSegments c kept s = { s with prog := { s.prog with
      contours := s.prog.contours.set c (some { k with
        stored := k.stored + kept.length, jets := k.jets + (kept.filter fun k => k.1.isJet).length })
      segments := s.prog.segments ++ newSegments c s.prog.nextSeq kept
      nextSeq := s.prog.nextSeq + kept.length } } := by
  unfold storeSegments State.modContour
  dsimp only
  rw [h, newSegments_jets]
  rfl

/-- An APPEND for a LOADING contour, with its entries judged. -/
theorem answerAppend_loading {c : Fin Config.contours} {es : List Entry} {k : Contour} {m : MachineSetup}
    (hc : s.contour? c = some k) (hk : k.status = .loading) (hm : s.setups.setup = some m) :
    answerAppend c es s = match validate m ((s.segmentsOf c).getLast?.map fun g => (g.cls, g.finish)) 1 es with
      | .error (st, i) => refusedAt st i s
      | .ok (kept, discarded) => appendKept c k kept discarded s := by
  unfold answerAppend
  rw [contourOf_val]
  dsimp only
  rw [hc, hm]
  exact if_neg (not_not_intro hk)

theorem answerAppend_wrongState {c : Fin Config.contours} {es : List Entry} (h : s.statusOf c ≠ some .loading) :
    answerAppend c es s = refused .wrongState s := by
  unfold answerAppend
  rw [contourOf_val]
  dsimp only
  split
  · next k _ hk _ => exact if_pos fun e => h (by simp [State.statusOf, hk, e])
  · rfl

theorem exec_append {c : Nat} {es : List Entry} (h1 : 1 ≤ es.length) (h8 : es.length ≤ 8) (p : Port) (tag : Byte) (s : State) :
    exec (.append p tag c es) s = .next (serve p tag (.append c es) (answerAppend c es) s) :=
  congrArg Host.Outcome.next (if_pos (by simp [appendFits, h1, h8]))

theorem exec_append_malformed {c : Nat} {es : List Entry} (h : ¬ (1 ≤ es.length ∧ es.length ≤ 8)) (hready : Ready s p) :
    exec (.append p tag c es) s = .next (sendReply p tag .malformed [] (frameEnded p s)) := by
  refine congrArg Host.Outcome.next ?_
  obtain ⟨hlive, hd⟩ := hready
  rw [serveAppend, if_neg (by simpa [appendFits] using h), live_live s _ hlive]
  exact if_neg (by simp [hd])

/-! The judgement of one entry (R28 to R30). -/

theorem segClass_ofCode (n : Nat) : SegClass.ofCode n = [SegClass.traverse, .leadin, .cut, .tab, .leadout][n]? := by
  match n with
  | 0 | 1 | 2 | 3 | 4 => rfl
  | n + 5 => rfl

/-- The classes that may follow a class in store order (R29). -/
def followers : Option SegClass → List SegClass
  | none => [.traverse]
  | some .traverse => [.traverse, .leadin, .cut, .tab, .leadout]
  | some .leadin => [.leadin, .cut, .tab, .leadout]
  | some .cut => [.cut, .tab, .leadout]
  | some .tab => [.cut, .leadout]
  | some .leadout => [.leadout]

theorem permits_iff (prev : Option SegClass) (c : SegClass) : permits prev c = true ↔ c ∈ followers prev := by
  cases prev with
  | none => cases c <;> simp [permits, followers]
  | some b => cases b <;> cases c <;> simp [permits, followers]

theorem givenArc_iff (e : Entry) : givenArc e = true ↔ e.shape ≠ .line := by
  unfold givenArc
  split
  · next h => simp [h]
  · next h => simp [h]

theorem isZero_iff (g : Computed) : g.isZero = true ↔ g.shape = .line ∧ g.start = some g.finish := by
  unfold Computed.isZero
  split
  · next h => simp [h]
  · next h => simp [h]

theorem validate_classed {m : MachineSetup} {prev : Option (SegClass × Point)} {i : Nat} {e : Entry} {es : List Entry}
    {cls : SegClass} (h : SegClass.ofCode e.classCode = some cls) : validate m prev i (e :: es) =
      if !permits (prev.map (·.1)) cls || (cls == .tab && givenArc e) then .error (.order, i)
      else
        match computeEntry m cls e (prev.map (·.2)) with
        | .error st => .error (st, i)
        | .ok g =>
          if g.isZero then (validate m prev (i + 1) es).map fun r => (r.1, r.2 + 1)
          else (validate m (some (cls, g.finish)) (i + 1) es).map fun r => ((cls, g) :: r.1, r.2) := by
  rw [validate, h]
  dsimp only
  refine if_congr Iff.rfl rfl ?_
  cases computeEntry m cls e (prev.map (·.2)) with
  | error st => rfl
  | ok g =>
    refine if_congr Iff.rfl ?_ ?_
    · cases validate m prev (i + 1) es <;> rfl
    · cases validate m (some (cls, g.finish)) (i + 1) es <;> rfl

theorem validate_entry (m : MachineSetup) (prev : Option (SegClass × Point)) (i : Nat) (e : Entry) (es : List Entry) :
    (5 ≤ e.classCode → validate m prev i (e :: es) = .error (.range, i))
    ∧ ∀ cls, [SegClass.traverse, .leadin, .cut, .tab, .leadout][e.classCode]? = some cls →
      (¬ (cls ∈ followers (prev.map (·.1)) ∧ ¬ (cls = .tab ∧ e.shape ≠ .line)) →
        validate m prev i (e :: es) = .error (.order, i))
      ∧ (∀ st, (cls ∈ followers (prev.map (·.1)) ∧ ¬ (cls = .tab ∧ e.shape ≠ .line)) →
        computeEntry m cls e (prev.map (·.2)) = .error st → validate m prev i (e :: es) = .error (st, i))
      ∧ ∀ g, (cls ∈ followers (prev.map (·.1)) ∧ ¬ (cls = .tab ∧ e.shape ≠ .line)) →
        computeEntry m cls e (prev.map (·.2)) = .ok g →
        (g.shape = .line ∧ g.start = some g.finish →
          validate m prev i (e :: es) = (validate m prev (i + 1) es).map fun r => (r.1, r.2 + 1))
        ∧ (¬ (g.shape = .line ∧ g.start = some g.finish) →
          validate m prev i (e :: es)
            = (validate m (some (cls, g.finish)) (i + 1) es).map fun r => ((cls, g) :: r.1, r.2)) := by
  refine ⟨fun h => ?_, fun cls hcls => ?_⟩
  · rw [validate, segClass_ofCode, List.getElem?_eq_none h]
  · have classed := validate_classed (m := m) (prev := prev) (i := i) (es := es) ((segClass_ofCode _).trans hcls)
    have order : (!permits (prev.map (·.1)) cls || (cls == .tab && givenArc e)) = true
        ↔ ¬ (cls ∈ followers (prev.map (·.1)) ∧ ¬ (cls = .tab ∧ e.shape ≠ .line)) := by
      rw [← permits_iff, ← givenArc_iff]
      cases permits (prev.map (·.1)) cls <;> cases givenArc e <;> simp
    refine ⟨fun h => ?_, fun st h he => ?_, fun g h he => ⟨fun hz => ?_, fun hz => ?_⟩⟩
    · rw [classed, if_pos (order.mpr h)]
    · rw [classed, if_neg fun ho => order.mp ho h, he]
    · rw [classed, if_neg fun ho => order.mp ho h, he]
      exact if_pos ((isZero_iff g).mpr hz)
    · rw [classed, if_neg fun ho => order.mp ho h, he]
      exact if_neg (mt (isZero_iff g).mp hz)

/-- Settles O23. -/
theorem append : Obligations.Append := by
  refine ⟨⟨fun tag c es k m kept discarded s hready h1 h8 hc hk hm hv hstored hfree hseq => ?_, fun c seq kept =>
    ⟨newSegments_seq c seq kept, newSegments_forall c seq kept⟩⟩, fun tag es s hready => ⟨fun h c => ?_,
    fun h1 h8 => ⟨fun c hc => ?_, fun c => ⟨fun hs => ?_, fun k m hc hk hm => ⟨fun st i hv => ?_, fun kept discarded hv => ?_⟩⟩⟩⟩,
    fun m prev i e es => ⟨rfl, validate_entry m prev i e es⟩⟩
  · rw [exec_append h1 h8]
    refine congrArg Host.Outcome.next (serve_accepted (takes_of_program rfl hready) ?_)
    have room : ¬ (decide ((frameEnded .cell s).freeSlots < kept.length)
        || decide (Config.maxSequence < (frameEnded .cell s).prog.nextSeq + kept.length - 1)) = true := by
      rw [Bool.or_eq_true, decide_eq_true_eq, decide_eq_true_eq]
      change ¬ (s.freeSlots < kept.length ∨ 4294967295 < s.prog.nextSeq + kept.length - 1)
      omega
    have free : (storeSegments c kept (frameEnded .cell s)).freeSlots = s.freeSlots - kept.length := by
      rw [storeSegments_eq (s := frameEnded .cell s) hc]
      simp only [State.freeSlots, frameEnded_prog, List.length_append, newSegments_length]
      omega
    rw [answerAppend_loading (s := frameEnded .cell s) hc hk hm, segmentsOf_frameEnded, hv]
    dsimp only
    rw [appendKept, if_neg (by simp only [Config.maxStored]; omega), if_neg room]
    dsimp only
    rw [free, storeSegments_eq (s := frameEnded .cell s) hc]
    rfl
  · exact exec_append_malformed h hready
  · rw [exec_append h1 h8]
    refine congrArg Host.Outcome.next (serve_refusedAt (takes_of_program rfl hready) ?_)
    rw [answerAppend, contourOf_none hc]
  · rw [exec_append h1 h8]
    exact congrArg Host.Outcome.next (serve_refused_by_owner (takes_of_program rfl hready) (answerAppend_wrongState hs))
  · rw [exec_append h1 h8]
    refine congrArg Host.Outcome.next (serve_refusedAt (takes_of_program rfl hready) ?_)
    rw [answerAppend_loading (s := frameEnded .cell s) hc hk hm, segmentsOf_frameEnded, hv]
  · have judged : answerAppend c es (frameEnded .cell s) = appendKept c k kept discarded (frameEnded .cell s) := by
      rw [answerAppend_loading (s := frameEnded .cell s) hc hk hm, segmentsOf_frameEnded, hv]
    have fits (h : k.stored + kept.length ≤ 200) : ¬ Config.maxStored < k.stored + kept.length := Nat.not_lt.mpr h
    have full (h : k.stored + kept.length ≤ 200)
        (hn : s.freeSlots < kept.length ∨ 4294967295 < s.prog.nextSeq + kept.length - 1) :
        exec (.append .cell tag c es) s = .next (sendReply .cell tag .storeFull (num4 s.freeSlots) (frameEnded .cell s)) := by
      rw [exec_append h1 h8]
      refine congrArg Host.Outcome.next ?_
      rw [serve_taken s _ _ _ _ (takes_of_program rfl hready), judged, appendKept, if_neg (fits h),
        if_pos (by rw [Bool.or_eq_true, decide_eq_true_eq, decide_eq_true_eq]; exact hn)]
      rfl
    refine ⟨fun h => ?_, fun h hn => full h (.inl hn), fun h _ hn => full h (.inr hn)⟩
    rw [exec_append h1 h8]
    refine congrArg Host.Outcome.next (serve_refused_by_owner (takes_of_program rfl hready) (judged.trans ?_))
    exact if_pos h

/-! ### CLEAR_CONTOUR -/

/-- The slots that a freed contour returns (R14). -/
theorem freeContour_freeSlots (c : Fin Config.contours) (h : StoreLaw s) :
    (freeContour c s).freeSlots = s.freeSlots + (s.segmentsOf c).length := by
  have parts : s.prog.segments.length
      = (s.segmentsOf c).length + (s.prog.segments.filter fun g => !(g.contour == c)).length := by
    have := List.length_eq_length_filter_add (l := s.prog.segments) fun g => g.contour == c
    exact this
  have store : s.prog.segments.length ≤ Config.storeSlots := h
  change Config.storeSlots - (s.prog.segments.filter fun g => !(g.contour == c)).length = _
  rw [State.freeSlots]
  omega

/-- Settles O25. -/
theorem clearContour : Obligations.ClearContour := by
  refine ⟨fun tag c k s hready hc hk hs => ?_, fun tag s hready => ⟨fun c hc => ?_, fun c hc => ?_, fun c hc => ?_⟩⟩
  · have free := freeContour_freeSlots (s := frameEnded .cell s) c hs
    rw [freeSlots_frameEnded, segmentsOf_frameEnded] at free
    have answered : answerClearContour c (frameEnded .cell s)
        = accepted (num4 (s.segmentsOf c).length ++ num4 (s.freeSlots + (s.segmentsOf c).length))
          (clearedInWait k.status (freeContour c (frameEnded .cell s))) := by
      unfold answerClearContour
      rw [contourOf_val]
      dsimp only
      rw [contour?_frameEnded, hc]
      dsimp only
      rw [if_neg hk, free, freeSlots_frameEnded, Nat.add_sub_cancel_left]
    have waits : (decide (k.status = .loading) && decide ((freeContour c (frameEnded .cell s)).cyc.phase = some .wait)
          && (freeContour c (frameEnded .cell s)).prog.runList.isEmpty) = true
        ↔ k.status = .loading ∧ s.cyc.phase = some .wait ∧ s.prog.runList.filter (· != c) = [] := by
      rw [Bool.and_eq_true, Bool.and_eq_true, decide_eq_true_eq, decide_eq_true_eq, List.isEmpty_iff, and_assoc]
      rfl
    refine ⟨fun hnot => ?_, fun hl hw hrun => ⟨_, congrArg Host.Outcome.next
      (serve_accepted (takes_of_program rfl hready) answered), ?_⟩⟩
    · refine congrArg Host.Outcome.next (serve_accepted (takes_of_program rfl hready) (answered.trans ?_))
      have stays : clearedInWait k.status (freeContour c (frameEnded .cell s)) = freeContour c (frameEnded .cell s) :=
        if_neg (mt waits.mp hnot)
      rw [stays]
      rfl
    · have ends : clearedInWait k.status (freeContour c (frameEnded .cell s)) = endCycle (freeContour c (frameEnded .cell s)) :=
        if_pos (waits.mpr ⟨hl, hw, hrun⟩)
      rw [ends, endCycle_eq]
      rfl
  · refine congrArg Host.Outcome.next (serve_refused_by_owner (takes_of_program rfl hready) ?_)
    unfold answerClearContour
    rw [contourOf_val]
    dsimp only
    rw [contour?_frameEnded, hc]
  · refine congrArg Host.Outcome.next (serve_refused_by_owner (takes_of_program rfl hready) ?_)
    obtain ⟨k, hk, hactive⟩ := Option.map_eq_some_iff.mp hc
    unfold answerClearContour
    rw [contourOf_val]
    dsimp only
    rw [contour?_frameEnded, hk]
    exact if_pos hactive
  · refine congrArg Host.Outcome.next (serve_refusedAt (takes_of_program rfl hready) ?_)
    rw [answerClearContour, contourOf_none hc]

end Sys2Proof.Proofs
end

section
/-! THE RETAINED WINDOW AND SEAL. What the window test of R34 keeps of a list, by the recursion of the test; the
conditions of R6, the state that a SEAL gives, and the contour that a waiting cycle takes at once. -/

namespace Sys2Proof.Proofs

open Sys2Proof.Machine

variable {s : State}

/-! ### The retained window -/

/-- One more segment released in front of those that the test releases from the rest. -/
theorem released_cons {reach : Nat} {g : Segment} {gone kept : List Segment}
    (hg : 32 < (gone ++ kept).length + 1 ∨ (gone ++ kept ≠ [] ∧ reach ≤ ((gone ++ kept).map (·.len)).sum))
    (ih : ∀ (pre post : List Segment) (h : Segment), gone = pre ++ h :: post →
      32 < (post ++ kept).length + 1 ∨ (post ++ kept ≠ [] ∧ reach ≤ ((post ++ kept).map (·.len)).sum)) :
    ∀ (pre post : List Segment) (h : Segment), g :: gone = pre ++ h :: post →
      32 < (post ++ kept).length + 1 ∨ (post ++ kept ≠ [] ∧ reach ≤ ((post ++ kept).map (·.len)).sum) := by
  intro pre post h e
  cases pre with
  | nil =>
    obtain ⟨-, rfl⟩ := List.cons.inj e
    exact hg
  | cons _ pre => exact ih pre post h (List.cons.inj e).2

/-- Settles O33, along the recursion of the test. -/
theorem retainedWindow : Obligations.RetainedWindow := by
  intro reach gs
  fun_induction windowKeeps reach gs with
  | case1 => simp
  | case2 g => exact ⟨⟨[], rfl, by simp⟩, by simp, by simp, by simp⟩
  | case3 g rest nonempty full ih =>
    obtain ⟨⟨gone, parts, released⟩, some_kept, most, short⟩ := ih
    have full : 32 < rest.length + 1 ∨ reach ≤ (rest.map (·.len)).sum := by
      simpa [Config.maxRetained] using full
    refine ⟨⟨g :: gone, congrArg (g :: ·) parts, released_cons ?_ released⟩, fun _ => some_kept nonempty, most, short⟩
    rw [← parts]
    exact full.imp_right fun h => ⟨nonempty, h⟩
  | case4 g rest nonempty full =>
    have full : rest.length + 1 ≤ 32 ∧ (rest.map (·.len)).sum < reach := by
      simpa [Config.maxRetained] using full
    exact ⟨⟨[], rfl, by simp⟩, by simp, full.1, fun _ => full.2⟩

/-! ### The conditions of R6 -/

/-- The jet segments among a contour's segments. -/
def jetRun (segs : List Segment) : List Segment := segs.filter fun g => g.cls.isJet

variable {f : ProcessSet} {m : MachineSetup} {method : PierceMethod} {segs : List Segment}

theorem any_cut_iff : (segs.any fun g => g.cls == .cut) = true ↔ ∃ g ∈ jetRun segs, g.cls = .cut := by
  simp only [List.any_eq_true, beq_iff_eq, jetRun, List.mem_filter]
  exact exists_congr fun g => ⟨fun ⟨hg, hc⟩ => ⟨⟨hg, by rw [hc]; rfl⟩, hc⟩, fun ⟨⟨hg, _⟩, hc⟩ => ⟨hg, hc⟩⟩

/-- A TAB at an end of the jet segments. -/
theorem map_cls_tab_iff {g : Option Segment} : (g.map (·.cls) == some SegClass.tab) = true ↔ ∃ h, g = some h ∧ h.cls = .tab := by
  simp [Option.map_eq_some_iff]

theorem sealRefusal_noCut (h : ∀ g ∈ jetRun segs, g.cls ≠ .cut) : sealRefusal f method segs = some .noCut := by
  refine if_pos ?_
  have : ¬ (segs.any fun g => g.cls == .cut) = true := fun e => by
    obtain ⟨g, hg, hc⟩ := any_cut_iff.mp e
    exact h g hg hc
  simpa using this

/-- With a CUT among the jet segments the other conditions decide. -/
theorem sealRefusal_cut (hcut : ∃ g ∈ jetRun segs, g.cls = .cut) :
    sealRefusal f method segs
      = if ((jetRun segs).head?.map (·.cls) == some .tab || (jetRun segs).getLast?.map (·.cls) == some .tab) = true
        then some .order
        else if (method == .creep && !creepFits f (jetRun segs).head?) = true then some .creepShort else none :=
  if_neg (by rw [any_cut_iff.mpr hcut]; decide)

theorem sealRefusal_order (hcut : ∃ g ∈ jetRun segs, g.cls = .cut)
    (h : (∃ g, (jetRun segs).head? = some g ∧ g.cls = .tab) ∨ ∃ g, (jetRun segs).getLast? = some g ∧ g.cls = .tab) :
    sealRefusal f method segs = some .order := by
  rw [sealRefusal_cut hcut, if_pos]
  rwa [Bool.or_eq_true, map_cls_tab_iff, map_cls_tab_iff]

/-- No TAB at an end. -/
theorem sealRefusal_noTab (hcut : ∃ g ∈ jetRun segs, g.cls = .cut)
    (hfirst : ∀ g, (jetRun segs).head? = some g → g.cls ≠ .tab)
    (hlast : ∀ g, (jetRun segs).getLast? = some g → g.cls ≠ .tab) :
    sealRefusal f method segs
      = if (method == .creep && !creepFits f (jetRun segs).head?) = true then some .creepShort else none := by
  rw [sealRefusal_cut hcut, if_neg]
  rw [Bool.or_eq_true, map_cls_tab_iff, map_cls_tab_iff]
  rintro (⟨g, hg, ht⟩ | ⟨g, hg, ht⟩)
  · exact hfirst g hg ht
  · exact hlast g hg ht

theorem creepFits_iff {first : Option Segment} :
    creepFits f first = true ↔ ∃ g, first = some g ∧ g.cls = .leadin ∧ f.vCreep * f.tRamp / 1000 ≤ g.len := by
  cases first with
  | none => simp [creepFits]
  | some g =>
    simp only [creepFits, creepDistance, Bool.and_eq_true, beq_iff_eq, Option.some.injEq, exists_eq_left']
    exact and_congr_right fun _ => decide_eq_true_iff

/-! ### The state that a SEAL gives -/

variable {c : Fin Config.contours} {r : Contour}

/-- The Program Store after a SEAL that passes (R7, R51, R66). -/
def sealedProg (c : Fin Config.contours) (r : Contour) (f : ProcessSet) (m : MachineSetup) (s : State) : ProgramStore :=
  let run := jetRun (s.segmentsOf c)
  let plans := planRun f m r.quality run
  { s.prog with
    contours := s.prog.contours.set c (some { r with
      status := .sealed, plannedLength := some (run.map (·.len)).sum, plannedTime := some (plans.map (·.time)).sum
      sealOrder := some s.prog.sealCounter })
    segments := s.prog.segments.map fun g =>
      if g.contour = c then { g with plan := planOf ((run.map (·.seq)).zip plans) g, state := .planned } else g
    runList := s.prog.runList ++ [c]
    sealCounter := (s.prog.sealCounter + 1) % 65536 }

theorem modContour_some (hc : s.contour? c = some r) (g : Contour → Contour) :
    s.modContour c g = s.setContour c (some (g r)) := by
  rw [State.modContour, hc]

theorem sealContour_prog (hc : s.contour? c = some r) :
    sealContour c r f m s = { s with prog := sealedProg c r f m s } := by
  unfold sealContour
  simp only [beq_iff_eq]
  exact (modContour_some (r := r) (by exact hc) _).trans rfl

/-- The reply to a SEAL that passes (R7). -/
def sealItems (c : Fin Config.contours) (r : Contour) (f : ProcessSet) (m : MachineSetup) (s : State) : List Item :=
  let run := jetRun (s.segmentsOf c)
  num8 (run.map (·.len)).sum ++ num8 ((planRun f m r.quality run).map (·.time)).sum ++ num4 s.prog.sealCounter

section

variable (hc : s.contour? c = some r) (hl : r.status = .loading) (hf : s.setFields r.slot = some f)
  (hm : s.setups.setup = some m)
include hc hl hf hm

theorem answerSeal_refused {st : Status} (hst : st ≠ .order) (h : sealRefusal f r.method (s.segmentsOf c) = some st) :
    answerSeal c s = refused st s := by
  unfold answerSeal
  simp only [contourOf_val, hc, hl, hf, hm, h, ne_eq, not_true, if_false]

theorem answerSeal_order (h : sealRefusal f r.method (s.segmentsOf c) = some .order) :
    answerSeal c s = refusedAt .order 0 s := by
  simp only [answerSeal, contourOf_val, hc, hl, hf, hm, h, ne_eq, not_true, if_false]

theorem answerSeal_passes (h : sealRefusal f r.method (s.segmentsOf c) = none) :
    answerSeal c s = sealAnswer (sealItems c r f m s) { s with prog := sealedProg c r f m s } := by
  have record : ({ s with prog := sealedProg c r f m s } : State).contour? c = (sealedProg c r f m s).contours[c] := rfl
  simp only [answerSeal, contourOf_val, hc, hl, hf, hm, h, ne_eq, not_true, if_false, sealContour_prog hc, record]
  simp only [sealedProg, sealItems, Fin.getElem_fin, Vector.getElem_set_self, Option.bind_some, Option.getD_some]

end

/-! ### The cycle that waits takes the contour -/

/-- A request that is accepted, with what follows it once the reply is formed. -/
theorem serve_then {p : Port} {tag : Byte} {q : Request} {answer : State → Answer} {items : List Item} {t : State}
    {go : State → State} (h : Takes s p q)
    (ha : answer (frameEnded p s) = { accepted items t with after := go }) :
    serve p tag q answer s = go (sendReply p tag .ok items t) := by
  rw [serve_taken s p tag q answer h, ha]
  rfl

/-- A command of which no law is asked, on a part whose ports stay. -/
def portsStay : Scope := ⟨False, False, False, False, False⟩

theorem approachTaken_ports (s : State) : (approachTaken s).ports = s.ports :=
  (keeps_approachTaken (k := portsStay) nofun).ports id

/-- In RUNNING WAIT the contour just sealed is the head of the Run List (R8, R10). -/
theorem continuationWith_sealed (hrun : s.prog.runList = []) (hstop : s.cyc.cycleStop = false) :
    continuationWith id { s with prog := sealedProg c r f m s }
      = takeContour c [] { s with prog := sealedProg c r f m s } := by
  have runs : (sealedProg c r f m s).runList = [c] := by
    rw [sealedProg, hrun]
    rfl
  rw [continuationWith, if_neg (by rw [hstop]; decide), runs]
  rfl

theorem inWait_iff : inWait s = true ↔ s.cyc.mstate = .running ∧ s.cyc.phase = some .wait := by
  rw [inWait, Bool.and_eq_true, decide_eq_true_eq, decide_eq_true_eq]

/-- A reply formed before an approach that Z has to move for is formed after it (R10, R114). -/
theorem approachTaken_sendReply (p : Port) (tag : Byte) (items : List Item) (hp : s.cyc.phase = some .approach)
    (hm : s.setups.setup = some m) (hz : s.axes.z.command ≠ m.zClearance) :
    approachTaken (sendReply p tag .ok items s) = sendReply p tag .ok items
      { s with axes := { s.axes with z := { s.axes.z with speedSq := 0 } }, zmotion := .moving m.zClearance .approach } := by
  have away : ((sendReply p tag .ok items s).chan .z).command ≠ m.zClearance := hz
  have setup : (sendReply p tag .ok items s).setups.setup = some m := hm
  rw [approachTaken, if_pos (by exact hp), beginApproach, toClearance, withSetup, setup]
  exact nameZMove_away _ _ _ _ away

section

variable {tag : Byte} (hready : Ready s .cell) (hc : s.contour? c = some r) (hl : r.status = .loading)
  (hf : s.setFields r.slot = some f) (hm : s.setups.setup = some m)
include hready hc hl hf hm

theorem exec_seal_refused {st : Status} (hst : st ≠ .order) (h : sealRefusal f r.method (s.segmentsOf c) = some st) :
    exec (.sealContour .cell tag c) s = .next (sendReply .cell tag st [] (frameEnded .cell s)) :=
  congrArg Host.Outcome.next (serve_refused_by_owner (takes_of_program rfl hready)
    (answerSeal_refused (s := frameEnded .cell s) hc hl hf hm hst h))

theorem exec_seal_order (h : sealRefusal f r.method (s.segmentsOf c) = some .order) :
    exec (.sealContour .cell tag c) s = .next (sendReply .cell tag .order (num1 0) (frameEnded .cell s)) :=
  congrArg Host.Outcome.next (serve_refusedAt (takes_of_program rfl hready)
    (answerSeal_order (s := frameEnded .cell s) hc hl hf hm h))

theorem exec_seal_queued (h : sealRefusal f r.method (s.segmentsOf c) = none)
    (hw : ¬ (s.cyc.mstate = .running ∧ s.cyc.phase = some .wait)) :
    exec (.sealContour .cell tag c) s = .next (sendReply .cell tag .ok (sealItems c r f m s)
      { frameEnded .cell s with prog := sealedProg c r f m s }) := by
  refine congrArg Host.Outcome.next (serve_accepted (takes_of_program rfl hready)
    ((answerSeal_passes (s := frameEnded .cell s) hc hl hf hm h).trans ?_))
  exact sealAnswer_queued _ _ (Bool.eq_false_iff.mpr fun e => hw (inWait_iff.mp e))

theorem exec_seal_waiting (h : sealRefusal f r.method (s.segmentsOf c) = none) (hrunning : s.cyc.mstate = .running)
    (hwait : s.cyc.phase = some .wait) (hstop : s.cyc.cycleStop = false) (hrun : s.prog.runList = []) :
    exec (.sealContour .cell tag c) s = .next (approachTaken (sendReply .cell tag .ok (sealItems c r f m s)
      (takeContour c [] { frameEnded .cell s with prog := sealedProg c r f m s }))) := by
  have waits : inWait { frameEnded .cell s with prog := sealedProg c r f m s } = true :=
    inWait_iff.mpr ⟨hrunning, hwait⟩
  refine congrArg Host.Outcome.next (serve_then (takes_of_program rfl hready)
    ((answerSeal_passes (s := frameEnded .cell s) hc hl hf hm h).trans ((sealAnswer_waiting _ _ waits).trans ?_)))
  exact congrArg (fun t => { accepted (sealItems c r f m s) t with after := approachTaken })
    (continuationWith_sealed (s := frameEnded .cell s) hrun hstop)

end

theorem takeContour_cyc (c : Fin Config.contours) (rest : List (Fin Config.contours)) (s : State) :
    (takeContour c rest s).cyc = { s.cyc with mstate := .running, phase := some .approach, active := some c } := by
  rw [takeContour_eq, closeJet_cyc]

/-- The contour taken, its record ACTIVE and the Run List without it. -/
theorem takeContour_taken (c : Fin Config.contours) (rest : List (Fin Config.contours)) (s : State) :
    (takeContour c rest s).prog.runList = rest
      ∧ (takeContour c rest s).statusOf c = (s.contour? c).map fun _ => .active := by
  have prog : (takeContour c rest s).prog = (headTaken c rest s).prog := by rw [takeContour_eq, closeJet_prog]
  refine ⟨prog ▸ (headTaken_store c rest s).2.2, ?_⟩
  refine (congrArg (fun q : ProgramStore => (q.contours[c]).map (·.status)) prog).trans ?_
  exact (headTaken_statusOf c c rest s).trans (if_pos rfl)

/-- Settles O24. -/
theorem sealTaken : Obligations.SealTaken := by
  refine ⟨?_, fun tag n s hready hn => ?_, fun tag c s hready => ⟨fun hc => ?_, fun r hc => ⟨fun hl => ?_, ?_⟩⟩⟩
  · intro tag c r f m s hready hc hl hf hm run hcut hfirst hlast hcreep plans prog items
    have passes : sealRefusal f r.method (s.segmentsOf c) = none := by
      rw [sealRefusal_noTab hcut hfirst hlast, if_neg]
      rw [Bool.and_eq_true, beq_iff_eq]
      rintro ⟨method, unfit⟩
      have fits : creepFits f (jetRun (s.segmentsOf c)).head? = true := creepFits_iff.mpr (hcreep method)
      rw [fits] at unfit
      cases unfit
    refine ⟨exec_seal_queued hready hc hl hf hm passes, fun hrunning hwait hstop hrun => ?_⟩
    have served := exec_seal_waiting (tag := tag) hready hc hl hf hm passes hrunning hwait hstop hrun
    have cyc := takeContour_cyc c [] { frameEnded .cell s with prog := sealedProg c r f m s }
    obtain ⟨runs, active⟩ := takeContour_taken c [] { frameEnded .cell s with prog := sealedProg c r f m s }
    refine ⟨⟨_, _, served, congrArg (fun q => q.cell.reply) (approachTaken_ports _), rfl, ?_⟩, fun hz => ?_⟩
    · exact congrArg (fun y : CycleController => some (BitVec.ofNat 8 y.mstate.number)) cyc
    · refine ⟨_, served.trans (congrArg Host.Outcome.next (approachTaken_sendReply (m := m) _ _ _ ?_ ?_ ?_)), ?_⟩
      · rw [cyc]
      · rw [takeContour_eq, closeJet_eq]
        exact hm
      · rw [takeContour_eq, closeJet_eq]
        exact hz
      · refine ⟨congrArg (·.mstate) cyc, congrArg (·.phase) cyc, congrArg (·.active) cyc, runs, active.trans ?_, rfl⟩
        have sealed : State.contour? { frameEnded .cell s with prog := sealedProg c r f m s } c
            = (sealedProg c r f m s).contours[c] := rfl
        rw [sealed]
        simp only [sealedProg, Fin.getElem_fin, Vector.getElem_set_self, Option.map_some]
  · refine congrArg Host.Outcome.next (serve_refusedAt (takes_of_program rfl hready) ?_)
    rw [answerSeal, contourOf_none hn]
  · refine congrArg Host.Outcome.next (serve_refused_by_owner (takes_of_program rfl hready) ?_)
    have free : (frameEnded .cell s).contour? c = none := hc
    simp only [answerSeal, contourOf_val, free]
  · refine congrArg Host.Outcome.next (serve_refused_by_owner (takes_of_program rfl hready) ?_)
    have held : (frameEnded .cell s).contour? c = some r := hc
    simp only [answerSeal, contourOf_val, held, ne_eq, hl, not_false_eq_true, if_true]
  · intro f m hl hf hm run
    refine ⟨fun hcut => exec_seal_refused hready hc hl hf hm (by decide) (sealRefusal_noCut hcut), fun hcut =>
      ⟨fun htab => exec_seal_order hready hc hl hf hm (sealRefusal_order hcut htab),
        fun g hg ht hlast hcreep hshort => exec_seal_refused hready hc hl hf hm (by decide) ?_⟩⟩
    have head (h : Segment) (hh : run.head? = some h) : h = g := Option.some.inj (hh.symm.trans hg)
    have unfit : creepFits f run.head? = false := Bool.eq_false_iff.mpr fun e => by
      obtain ⟨h, hh, leadin, long⟩ := creepFits_iff.mp e
      rw [head h hh] at leadin long
      exact hshort.elim (· leadin) fun lt => Nat.not_le.mpr lt long
    rw [sealRefusal_noTab hcut (fun h hh => head h hh ▸ ht) hlast, if_pos]
    rw [Bool.and_eq_true, beq_iff_eq]
    exact ⟨hcreep, by rw [show jetRun (s.segmentsOf c) = run from rfl, unfit]; rfl⟩

end Sys2Proof.Proofs
end

section
/-! STORED GEOMETRY (O30). What each part of the geometry step of R38 accepts: a checked LINE, an ARC by its tests 2 to
5, and an entry by its class and shape. -/

namespace Sys2Proof.Proofs

open Sys2Proof.Machine

variable {m : MachineSetup} {d : ArcDir} {s c e : Point} {g : Computed}

theorem within_natAbs {n : Nat} {v : Int} : within (-n) v n = true ↔ v.natAbs ≤ n := by
  rw [within, Bool.and_eq_true, decide_eq_true_eq, decide_eq_true_eq]
  omega

theorem checkedLine_ok {h : Computed} (hok : checkedLine m h = .ok g) : g = h ∧ inWindows m h.finish = true := by
  unfold checkedLine at hok
  split at hok
  · next inside => exact ⟨(Except.ok.inj hok).symm, inside⟩
  · cases hok

theorem arcSweep_le (d : ArcDir) (u v : Point) : arcSweep d u v ≤ 65536 := by
  unfold arcSweep
  split
  · exact le_rfl
  · exact (min_le_right _ _).trans (by decide)

/-- The whole turn is the sweep of equal radius vectors alone (R42). -/
theorem arcSweep_whole {u v : Point} : arcSweep d u v = 65536 ↔ u = v := by
  unfold arcSweep
  split
  · next h => exact iff_of_true rfl h
  · next h =>
    have := min_le_right (angleRound (turnIn d u v).x (turnIn d u v).y) 65535
    exact iff_of_false (by dsimp only; omega) h

theorem sub_left_inj : s.sub c = e.sub c ↔ e = s := by
  obtain ⟨sx, sy⟩ := s
  obtain ⟨ex, ey⟩ := e
  simp only [Point.sub, Point.mk.injEq]
  omega

theorem extremesInside_iff {u : Point} {r sweep : Nat} :
    extremesInside m d c u r sweep = true
      ↔ ∀ e ∈ axisExtremes c r, withinSweep d u e.1 sweep = true → inWindows m e.2 = true := by
  rw [extremesInside, List.all_eq_true]
  refine forall₂_congr fun e _ => ?_
  cases withinSweep d u e.1 sweep <;> simp

/-- What an ARC that is stored as one has passed (R41 to R47). -/
structure ArcPasses (m : MachineSetup) (d : ArcDir) (s c e : Point) (g : Computed) : Prop where
  stored : g = { shape := .arc d c (s.sub c).norm (arcSweep d (s.sub c) (e.sub c)), start := some s, finish := e
                 length := some (arcLength (s.sub c).norm (arcSweep d (s.sub c) (e.sub c)))
                 tangents := some ⟨arcTangent d (s.sub c), arcTangent d (e.sub c)⟩ }
  centre : c.x.natAbs ≤ 16000000 ∧ c.y.natAbs ≤ 16000000
  tolerance : absDiff (s.sub c).norm (e.sub c).norm ≤ m.arcTolerance
  radii : 100 ≤ (s.sub c).norm ∧ (s.sub c).norm ≤ 4000000 ∧ 100 ≤ (e.sub c).norm ∧ (e.sub c).norm ≤ 4000000
  sweeps : 1 ≤ arcSweep d (s.sub c) (e.sub c) ∧ 1 ≤ arcLength (s.sub c).norm (arcSweep d (s.sub c) (e.sub c))
  inside : inWindows m e = true
  extremes : ∀ x ∈ axisExtremes c (s.sub c).norm,
    withinSweep d (s.sub c) x.1 (arcSweep d (s.sub c) (e.sub c)) = true → inWindows m x.2 = true

/-- An accepted ARC is stored as the LINE of R43, or has passed every test. -/
theorem computeArc_ok (hok : computeArc m d s c e = .ok g) :
    (g = computeLine s e ∧ inWindows m e = true) ∨ ArcPasses m d s c e g := by
  unfold computeArc at hok
  split at hok
  · cases hok
  next centre =>
  dsimp only at hok
  split at hok
  · cases hok
  next tolerance =>
  split at hok
  · cases hok
  next radii =>
  split at hok
  · exact .inl (checkedLine_ok hok)
  next sweeps =>
  split at hok
  case isFalse => cases hok
  next inside =>
  obtain ⟨inside, extremes⟩ := Bool.and_eq_true_iff.mp inside
  have centre : within (-(16000000 : Nat)) c.x (16000000 : Nat) = true ∧ within (-(16000000 : Nat)) c.y (16000000 : Nat) = true := by
    simpa using centre
  simp only [Bool.or_eq_true, decide_eq_true_eq, not_or] at radii sweeps
  exact .inr
    { stored := (Except.ok.inj hok).symm
      centre := centre.imp within_natAbs.mp within_natAbs.mp
      tolerance := not_lt.mp tolerance
      radii := by omega
      sweeps := by omega
      inside := inside
      extremes := extremesInside_iff.mp extremes }

/-- An accepted entry ends within the ranges of test 1, and is a first TRAVERSE, a LINE or an ARC. -/
theorem computeEntry_ok {cls : SegClass} {en : Entry} {start : Option Point} (hok : computeEntry m cls en start = .ok g) :
    (en.endX.natAbs ≤ 8000000 ∧ en.endY.natAbs ≤ 8000000)
      ∧ ((start = none ∧ g = computeFirst ⟨en.endX, en.endY⟩ ∧ inWindows m ⟨en.endX, en.endY⟩ = true)
        ∨ ∃ s, start = some s
          ∧ ((g = computeLine s ⟨en.endX, en.endY⟩ ∧ inWindows m ⟨en.endX, en.endY⟩ = true)
            ∨ (cls ≠ .traverse ∧ ∃ c, en.shape = .arc c.x c.y
                ∧ ArcPasses m (if en.cw then .cw else .ccw) s c ⟨en.endX, en.endY⟩ g))) := by
  unfold computeEntry at hok
  dsimp only at hok
  split at hok
  · cases hok
  next range =>
  have range : within (-(8000000 : Nat)) en.endX (8000000 : Nat) = true ∧ within (-(8000000 : Nat)) en.endY (8000000 : Nat) = true := by
    simpa using range
  refine ⟨range.imp within_natAbs.mp within_natAbs.mp, ?_⟩
  split at hok
  · exact .inl ⟨rfl, checkedLine_ok hok⟩
  · next s =>
    refine .inr ⟨s, rfl, ?_⟩
    split at hok
    · exact .inl (checkedLine_ok hok)
    · exact .inl (checkedLine_ok hok)
    · next cx cy hcls hshape =>
      exact (computeArc_ok hok).imp_right fun arc => ⟨hcls, ⟨cx, cy⟩, hshape, arc⟩

/-- Settles O30, by what the geometry step has accepted. -/
theorem storedGeometry : Obligations.StoredGeometry := by
  intro m cls en start g hok
  obtain ⟨⟨hx, hy⟩, ⟨rfl, rfl, inside⟩ | ⟨s, rfl, ⟨rfl, inside⟩ | ⟨hcls, c, hshape, arc⟩⟩⟩ := computeEntry_ok hok
  · exact ⟨rfl, inside, hx, hy, rfl, fun _ => ⟨rfl, rfl⟩, nofun, nofun⟩
  · exact ⟨rfl, inside, hx, hy, rfl, nofun, fun _ e _ => by cases e; exact ⟨rfl, rfl⟩, nofun⟩
  · obtain ⟨rfl, ⟨hcx, hcy⟩, tolerance, ⟨r1, r2, r3, r4⟩, ⟨sweeps, long⟩, inside, extremes⟩ := arc
    refine ⟨rfl, inside, hx, hy, rfl, nofun, nofun, fun d c r sweep harc => ?_⟩
    obtain ⟨rfl, rfl, rfl, rfl⟩ := Shape.arc.inj harc
    exact ⟨hcls, hshape, rfl, hcx, hcy, r1, r2, sweeps, arcSweep_le _ _ _, r3, r4, s, rfl, rfl, tolerance, rfl,
      arcSweep_whole.trans sub_left_inj, extremes, rfl, long, rfl⟩

end Sys2Proof.Proofs
end

section
/-! RESET AND POWER (O5). A part held in reset takes nothing but the levels of its lines; the reports of what a start
finds asserted, the first of which is a fault action and the rest of which are further alerts. -/

namespace Sys2Proof.Proofs

open Sys2Proof.Machine

variable {s t : State}

/-! ### The part held in reset -/

/-- `t` is `s` but for the lines. -/
def LinesOnly (s t : State) : Prop := t = { s with lines := t.lines }

theorem linesOnly_next {u : State} (hu : LinesOnly s u) (h : Host.Outcome.next u = (.next t : Host.Outcome State Fault Refusal)) :
    LinesOnly s t :=
  Host.Outcome.next.inj h ▸ hu

theorem linesOnly_live (hs : s.lines.held = true) (f : State → State) : LinesOnly s (live f s) := by
  rw [live_held s f hs]
  rfl

theorem linesOnly_serve (hs : s.lines.held = true) (p : Port) (tag : Byte) (r : Request) (answer : State → Answer) :
    LinesOnly s (serve p tag r answer s) := by
  rw [serve_held s p tag r answer hs]
  rfl

/-- A line takes a level that leaves the part held. -/
theorem linesOnly_line {g : Lines → Lines} (hs : (g s.lines).held = true) (f : State → State) :
    LinesOnly s (live f (s.onLines g)) := by
  rw [live_held (s.onLines g) f hs]
  rfl

theorem linesOnly_edge {g : Lines → Lines} (hs : (g s.lines).held = true) (edge : Bool) (f : State → State) :
    LinesOnly s (if edge then live f (s.onLines g) else s.onLines g) := by
  cases edge
  · rfl
  · exact linesOnly_line hs f

theorem linesOnly_serveAppend (hs : s.lines.held = true) (p : Port) (tag : Byte) (c : Nat) (es : List Entry) :
    LinesOnly s (serveAppend p tag c es s) := by
  unfold serveAppend
  split
  · exact linesOnly_serve hs _ _ _ _
  · exact linesOnly_live hs _

/-- No command but RESET_INPUT and POWER_ON changes more than the lines of a part held in reset (R194). -/
theorem exec_linesOnly {c : Instr} (hs : s.lines.held = true) (hreset : ∀ v, c ≠ .resetInput v)
    (hpower : ∀ v, c ≠ .powerOn v) (h : exec c s = .next t) : LinesOnly s t := by
  cases c with
  | resetInput v => exact absurd rfl (hreset v)
  | powerOn v => exact absurd rfl (hpower v)
  | append p tag c es => exact linesOnly_next (linesOnly_serveAppend hs p tag c es) h
  | getStatus | getAxes | getContour | getSet | getAlert | releaseAlert | proposeSet | declare | sealContour
  | clearContour | clearProgram | writeSetup | setAccumulators | restart | approveSet | declineSet | setOverride
  | releaseFault | hold | cycleStop | abort | cycleStart | resume | home | jog | jogStep | jogRefresh | jogStop =>
    exact linesOnly_next (linesOnly_serve hs _ _ _ _) h
  | estopAssert => exact linesOnly_next (linesOnly_edge hs (!s.lines.estop) estopAsserted) h
  | limitAssert a d => exact linesOnly_next (linesOnly_edge hs (!s.lines.limit a d) (limitAsserted a d)) h
  | homeInputAssert a => exact linesOnly_next (linesOnly_edge hs (!s.lines.homes.get a) (homeEdge a)) h
  | homeInputNegate a => exact linesOnly_next (linesOnly_edge hs (s.lines.homes.get a) (homeCleared a)) h
  | contactAssert => exact linesOnly_next (linesOnly_edge hs (!s.lines.contact) contactMade) h
  | abrflowAssert => exact linesOnly_next (linesOnly_edge hs (!s.lines.abrflow) abrflowAsserted) h
  | abrflowNegate => exact linesOnly_next (linesOnly_edge hs s.lines.abrflow abrflowNegated) h
  | pumprdyNegate v => exact linesOnly_next (linesOnly_edge hs (s.lines.pumprdy && !v) pumprdyNegated) h
  | estopNegate => exact linesOnly_next (linesOnly_line hs retestCause) h
  | limitNegate a d => exact linesOnly_next (linesOnly_line hs retestCause) h
  | contactNegate => exact linesOnly_next (linesOnly_line hs contactGone) h
  | pfbChange v => exact linesOnly_next (linesOnly_line hs pfbChanged) h
  | keyModeChange k1 k0 => exact linesOnly_next (linesOnly_line hs keyRead) h
  | unknownRequest | characterReceived | frameTimerExpiry | replySent | encoderCount | settleTimerExpiry | dipTimerExpiry
  | tLowDwellEnd | rampTick | rampEnd | tDwellEnd | tRejoinDwellEnd | abrasiveDelayExpiry | abrasiveGraceExpiry
  | keepTimerExpiry | seekTravelLimit | jetTimeCount | segmentCompletion | segmentBoundaryPassed | backupTargetReached
  | jetClosePointPassed | pathAtRest | zMoveComplete | zAtRest | probeEndOfTravel | homingClearAtRest | homingSettleAtRest
  | homingReturnAtRest | homingStoppedAtRest | jogAtRest | stepPulse =>
    exact linesOnly_next (linesOnly_live hs _) h

/-! ### What a start finds asserted -/

/-- A limit input found asserted is reported (R88). -/
def limitFound (s : State) (p : Axis × Side) : State :=
  if s.lines.limit p.1 p.2 then faultAction (.limit p.1 p.2) s else s

theorem reportFound_eq (s : State) :
    reportFound s = limitOrder.foldl limitFound (if s.lines.estop then faultAction .estop s else s) := rfl

/-- Limit inputs that are not asserted are not reported. -/
theorem foldl_limitFound_none {ps : List (Axis × Side)} (h : ∀ p ∈ ps, s.lines.limit p.1 p.2 = false) :
    ps.foldl limitFound s = s := by
  induction ps with
  | nil => rfl
  | cons p ps ih =>
    obtain ⟨hp, hps⟩ := List.forall_mem_cons.mp h
    rw [List.foldl_cons, limitFound, if_neg (by rw [hp]; decide), ih hps]

theorem limit_negated {l : Lines} (h : l.firstLimit = none) : ∀ p ∈ limitOrder, l.limit p.1 p.2 = false :=
  fun p hp => Bool.eq_false_iff.mpr (List.find?_eq_none.mp h p hp)

/-- The part in FAULT with the fault cause and the first alert of a limit input found in UNCONFIGURED. -/
def FoundLimit (a : Axis) (d : Side) (t : State) : Prop :=
  t.cyc.mstate = .fault ∧ t.cyc.faultCause = some (.limit a d)
    ∧ ∃ r, t.alert = some r ∧ r.code = .limit ∧ r.detail.axis = some a ∧ r.detail.side = some d
      ∧ r.mstate = .unconfigured ∧ r.contour = none ∧ r.isStatic = false

/-- A later report is a further alert (R156). -/
theorem foundLimit_limitFound {a : Axis} {d : Side} (p : Axis × Side) (h : FoundLimit a d t) :
    FoundLimit a d (limitFound t p) := by
  unfold limitFound
  split
  · obtain ⟨hm, hf, r, hr, rest⟩ := h
    rw [faultAction_fault t _ hm]
    exact ⟨hm, hf, recordAlert .limit _ _ (some r), by rw [hr]; rfl, rest⟩
  · exact h

theorem foundLimit_foldl {a : Axis} {d : Side} (ps : List (Axis × Side)) (h : FoundLimit a d t) :
    FoundLimit a d (ps.foldl limitFound t) := by
  induction ps generalizing t with
  | nil => exact h
  | cons p ps ih => exact ih (foundLimit_limitFound p h)

/-- The first limit input in the order of R151 is the fault cause (entry 26). -/
theorem foundLimit_first {a : Axis} {d : Side} (hf : s.lines.firstLimit = some (a, d)) (hm : s.cyc.mstate = .unconfigured)
    (hc : s.cyc.active = none) (ha : s.alert = none) : FoundLimit a d (limitOrder.foldl limitFound s) := by
  obtain ⟨found, before, after, split, negated⟩ := List.find?_eq_some_iff_append.mp hf
  have found : s.lines.limit a d = true := found
  have quiet : before.foldl limitFound s = s := foldl_limitFound_none fun p hp => by simpa using negated p hp
  rw [split, List.foldl_append, quiet, List.foldl_cons]
  refine foundLimit_foldl after ?_
  have taken := faultAction_taken s (.limit a d) (by rw [hm]; decide)
  rw [limitFound, if_pos found, taken, hc, hm, ha]
  exact ⟨rfl, congrArg some (if_pos found), _, rfl, rfl, rfl, rfl, rfl, rfl, rfl⟩

theorem reportFound_estop (he : s.lines.estop = true) (hf : s.lines.firstLimit = none) (hm : s.cyc.mstate ≠ .fault) :
    FaultTaken .estop s (reportFound s) := by
  have taken := faultAction_taken s .estop hm
  have quiet : ∀ p ∈ limitOrder, (faultAction .estop s).lines.limit p.1 p.2 = false := by
    rw [taken]
    exact limit_negated hf
  rw [reportFound_eq, if_pos he, foldl_limitFound_none quiet]
  exact taken

theorem reportFound_limit {a : Axis} {d : Side} (he : s.lines.estop = false) (hf : s.lines.firstLimit = some (a, d))
    (hm : s.cyc.mstate = .unconfigured) (hc : s.cyc.active = none) (ha : s.alert = none) :
    FoundLimit a d (reportFound s) := by
  rw [reportFound_eq, if_neg (by rw [he]; decide)]
  exact foundLimit_first hf hm hc ha

/-! ### RESET and the supply -/

theorem resetLines_held {l : Lines} (h : l.held = true) : resetLines l s = State.resetWith l s.pending := if_pos h

/-- The part starts. -/
theorem resetLines_start {l : Lines} (h : l.held = false) (hs : s.lines.held = true) : resetLines l s = resetNow l s := by
  rw [resetLines, if_neg (by rw [h]; decide), if_pos hs]

/-- Settles O5. -/
theorem resetHoldsThePart : Obligations.ResetHoldsThePart := by
  refine ⟨⟨fun s => ?_, fun s => ?_, fun c s t hs hreset hpower h => exec_linesOnly hs hreset hpower h,
    fun s hr hp he hf => ?_, fun s hp hr he hf => ?_⟩, fun s hr hp he hf => ?_, fun s a d hr hp he hf => ?_⟩
  · exact congrArg Host.Outcome.next (resetLines_held (by simp [Lines.held]))
  · exact congrArg Host.Outcome.next (resetLines_held (by simp [Lines.held]))
  · exact congrArg Host.Outcome.next
      ((resetLines_start (by simp [Lines.held, hp]) (by simp [Lines.held, hr])).trans (resetNow_quiet he hf))
  · exact congrArg Host.Outcome.next
      ((resetLines_start (by simp [Lines.held, hr]) (by simp [Lines.held, hp])).trans (resetNow_quiet he hf))
  · exact ⟨_, congrArg Host.Outcome.next (resetLines_start (by simp [Lines.held, hp]) (by simp [Lines.held, hr])),
      reportFound_estop he hf nofun⟩
  · obtain ⟨hm, hc, r, alert⟩ :=
      reportFound_limit (s := State.resetWith { s.lines with reset := false } s.pending) he hf rfl rfl rfl
    exact ⟨_, r, congrArg Host.Outcome.next (resetLines_start (by simp [Lines.held, hp]) (by simp [Lines.held, hr])),
      hm, hc, alert⟩

end Sys2Proof.Proofs
end

section
/-! CYCLE_START, HOLD, CYCLE_STOP AND ABORT. What entering a machine state and the taking of a contour leave, as updates
of the state; then the requests, case by case of the machine state. -/

namespace Sys2Proof.Proofs

open Sys2Proof.Machine

variable {s t : State}

/-! ### Entering a machine state -/

/-- Entering a state and phase with the valves closed and no pre-charge shuts the jet (R92, R93). -/
theorem enterState_shut (m : MachineState) (ph : Option Phase) (s : State)
    (hv : valvesAllowed { s.cyc with mstate := m, phase := ph } = false)
    (hp : preCharge { s.cyc with mstate := m, phase := ph } = false) :
    ∃ b, enterState m ph s = { s with cyc := { s.cyc with mstate := m, phase := ph }, jet := s.jet.shut b } := by
  rw [enterState_closed _ _ _ hv, closeJet_shut _ hp]
  exact ⟨_, rfl⟩

/-- The pre-charge of the active contour's process set (R93). -/
def chargeOf (s : State) : Nat := (s.activeSet.map (·.pPierce)).getD 0

/-- Entering APPROACH or PROBE in RUNNING closes the jet at the pre-charge. -/
theorem enterState_charged (ph : Phase) (s : State) (hp : ph = .approach ∨ ph = .probe) :
    ∃ b, enterState .running (some ph) s = { s with
      cyc := { s.cyc with mstate := .running, phase := some ph }
      jet := { s.jet.shut b with demand := chargeOf s } } := by
  obtain rfl | rfl := hp
  all_goals
    rw [enterState_closed _ _ _ rfl, closeJet_eq]
    exact ⟨_, rfl⟩

/-- The head of the Run List taken (R10): its record ACTIVE, phase APPROACH, the jet closed at the pre-charge. -/
theorem takeContour_record {c : Fin Config.contours} {rest : List (Fin Config.contours)} {r : Contour} {f : ProcessSet}
    (hc : s.contour? c = some r) (hf : s.setFields r.slot = some f) :
    ∃ b, takeContour c rest s = { s with
      prog := { s.prog with contours := s.prog.contours.set c (some { r with status := .active }), runList := rest }
      cyc := { s.cyc with mstate := .running, phase := some .approach, active := some c }
      jet := { s.jet.shut b with demand := f.pPierce } } := by
  have prog : (headTaken c rest s).prog
      = { s.prog with contours := s.prog.contours.set c (some { r with status := .active }), runList := rest } := by
    unfold headTaken
    exact congrArg State.prog (modContour_some (r := r) (by exact hc) _)
  rw [takeContour_eq, prog, closeJet_eq]
  refine ⟨_, congrArg (fun d => ({ s with
    prog := { s.prog with contours := s.prog.contours.set c (some { r with status := .active }), runList := rest }
    cyc := { s.cyc with mstate := .running, phase := some .approach, active := some c }
    jet := { s.jet.shut _ with demand := d } } : State)) ?_⟩
  have record : State.contour? { s with
      prog := { s.prog with contours := s.prog.contours.set c (some { r with status := .active }), runList := rest } } c
      = some { r with status := .active } := by
    simp [State.contour?]
  have set : State.activeSet { s with
      prog := { s.prog with contours := s.prog.contours.set c (some { r with status := .active }), runList := rest }
      cyc := { s.cyc with mstate := .running, phase := some .approach, active := some c } } = some f := by
    exact (congrArg (fun o : Option Contour => o.bind fun r => s.setFields r.slot) record).trans hf
  rw [closedDemand, set]
  rfl

/-! ### CYCLE_START -/

theorem allHomed_of (h : ∀ a, (s.chan a).homed = true) : allHomed s = true := by
  have hx : s.axes.x.homed = true := h .x
  have hy : s.axes.y.homed = true := h .y
  have hz : s.axes.z.homed = true := h .z
  simp [allHomed, hx, hy, hz]

/-- Nothing is queued and nothing is LOADING. -/
theorem nothing_queued_iff : (s.prog.runList.isEmpty && s.loading.isNone) = true ↔ s.prog.runList = [] ∧ s.loading = none := by
  rw [Bool.and_eq_true, List.isEmpty_iff, Option.isNone_iff_eq_none]

theorem wearLimit_iff {j : Jet} : j.wearLimit = true ↔ j.wearJetTime = true ∨ j.wearPierceCount = true := by
  rw [Jet.wearLimit, Bool.or_eq_true]

/-- A CYCLE_START that passes the conditions of R112. -/
theorem answerCycleStart_passes (hm : s.cyc.mstate = .idle) (hh : allHomed s = true)
    (hq : ¬ (s.prog.runList = [] ∧ s.loading = none)) (hp : s.lines.pumprdy = true) (hw : s.jet.wearLimit = false) :
    answerCycleStart s = startCycle s := by
  unfold answerCycleStart
  rw [if_neg (by simp [hm]), if_neg (by simp [hh]), if_neg (mt nothing_queued_iff.mp hq), if_neg (by simp [hp]),
    if_neg (by simp [hw])]

/-- Where CONTACT is negated the start is answered as the continuation stands, and the approach follows. -/
theorem startCycle_clear (hc : s.lines.contact = false) (ht : continuationWith id
      (enterState .running none (s.onCyc fun c => { c with cycleStop := false })) = t) :
    startCycle s = { accepted (phaseItems t) t with after := approachTaken } := by
  subst ht
  unfold startCycle
  rw [if_neg (by rw [hc]; decide)]

/-- RUNNING without a phase, the cycle-stop flag clear: the state in which the continuation is applied. -/
theorem enterState_started (s : State) :
    ∃ b, enterState .running none (s.onCyc fun c => { c with cycleStop := false }) = { s with
      cyc := { s.cyc with mstate := .running, phase := none, cycleStop := false }, jet := s.jet.shut b } :=
  ⟨_, enterState_noPhase _ _⟩

theorem continuationWith_head {go : State → State} {c : Fin Config.contours} {rest : List (Fin Config.contours)}
    (hs : s.cyc.cycleStop = false) (hr : s.prog.runList = c :: rest) :
    continuationWith go s = go (takeContour c rest s) := by
  rw [continuationWith, if_neg (by rw [hs]; decide), hr]

theorem continuationWith_waits {go : State → State} (hs : s.cyc.cycleStop = false) (hr : s.prog.runList = [])
    (hl : s.loading ≠ none) : continuationWith go s = enterState .running (some .wait) s := by
  rw [continuationWith, if_neg (by rw [hs]; decide), hr]
  exact if_pos (Option.isSome_iff_ne_none.mpr hl)

theorem continuationWith_ends {go : State → State}
    (h : s.cyc.cycleStop = true ∨ (s.prog.runList = [] ∧ s.loading = none)) : continuationWith go s = endCycle s := by
  rw [continuationWith]
  obtain hs | ⟨hr, hl⟩ := h
  · exact if_pos hs
  · split
    · rfl
    · rw [hr]
      exact if_neg (by rw [hl]; decide)

/-- A cycle that waits leaves a reply as it is. -/
theorem approachTaken_waiting (h : s.cyc.phase ≠ some .approach) : approachTaken s = s := if_neg h

/-- The refusals of CYCLE_START in the order of R112. -/
theorem answerCycleStart_refused {st : Status}
    (h : (s.cyc.mstate ≠ .idle ∧ st = .wrongState)
      ∨ (s.cyc.mstate = .idle ∧ allHomed s = false ∧ st = .notHomed)
      ∨ (s.cyc.mstate = .idle ∧ allHomed s = true ∧ s.prog.runList = [] ∧ s.loading = none ∧ st = .runListEmpty)
      ∨ (s.cyc.mstate = .idle ∧ allHomed s = true ∧ (s.prog.runList ≠ [] ∨ s.loading ≠ none)
          ∧ s.lines.pumprdy = false ∧ st = .pumpNotReady)
      ∨ (s.cyc.mstate = .idle ∧ allHomed s = true ∧ (s.prog.runList ≠ [] ∨ s.loading ≠ none)
          ∧ s.lines.pumprdy = true ∧ (s.jet.wearJetTime = true ∨ s.jet.wearPierceCount = true) ∧ st = .wearLimit)) :
    answerCycleStart s = refused st s := by
  have queued (h : s.prog.runList ≠ [] ∨ s.loading ≠ none) : ¬ (s.prog.runList.isEmpty && s.loading.isNone) = true :=
    mt nothing_queued_iff.mp fun ⟨hr, hl⟩ => h.elim (· hr) (· hl)
  unfold answerCycleStart
  obtain ⟨hm, rfl⟩ | ⟨hm, hh, rfl⟩ | ⟨hm, hh, hr, hl, rfl⟩ | ⟨hm, hh, hq, hp, rfl⟩ | ⟨hm, hh, hq, hp, hw, rfl⟩ := h
  · exact if_pos hm
  · rw [if_neg (by simp [hm])]
    exact if_pos (by simp [hh])
  · rw [if_neg (by simp [hm]), if_neg (by simp [hh])]
    exact if_pos (nothing_queued_iff.mpr ⟨hr, hl⟩)
  · rw [if_neg (by simp [hm]), if_neg (by simp [hh]), if_neg (queued hq)]
    exact if_pos (by simp [hp])
  · rw [if_neg (by simp [hm]), if_neg (by simp [hh]), if_neg (queued hq), if_neg (by simp [hp])]
    exact if_pos (wearLimit_iff.mpr hw)

/-- Settles O34. -/
theorem cycleStartTakes : Obligations.CycleStartTakes := by
  refine ⟨fun tag c rest r m f s htakes hm hh hr hp hw1 hw2 hcontact hc hsetup hf hz => ?_,
    fun tag s htakes hm hh hr hl hp hw1 hw2 hcontact => ?_, fun tag st s htakes h => ?_⟩
  · obtain ⟨b, started⟩ := enterState_started (frameEnded .pendant s)
    have passes : answerCycleStart (frameEnded .pendant s) = startCycle (frameEnded .pendant s) :=
      answerCycleStart_passes hm (allHomed_of hh) (fun ⟨e, _⟩ => by cases hr.symm.trans e) hp (by simp [Jet.wearLimit, hw1, hw2])
    have taken := continuationWith_head (go := id) (c := c) (rest := rest) (s := { frameEnded .pendant s with
      cyc := { s.cyc with mstate := .running, phase := none, cycleStop := false }, jet := s.jet.shut b }) rfl hr
    obtain ⟨b', record⟩ := takeContour_record (rest := rest) (s := { frameEnded .pendant s with
      cyc := { s.cyc with mstate := .running, phase := none, cycleStop := false }, jet := s.jet.shut b }) hc hf
    have answered := passes.trans (startCycle_clear hcontact ((congrArg (continuationWith id) started).trans
      (taken.trans record)))
    refine ⟨_, congrArg Host.Outcome.next ((serve_then htakes answered).trans
      (approachTaken_sendReply (m := m) _ _ _ rfl hsetup hz)), rfl⟩
  · obtain ⟨b, started⟩ := enterState_started (frameEnded .pendant s)
    have passes : answerCycleStart (frameEnded .pendant s) = startCycle (frameEnded .pendant s) :=
      answerCycleStart_passes hm (allHomed_of hh) (fun ⟨_, e⟩ => hl e) hp (by simp [Jet.wearLimit, hw1, hw2])
    have waits := continuationWith_waits (go := id) (s := { frameEnded .pendant s with
      cyc := { s.cyc with mstate := .running, phase := none, cycleStop := false }, jet := s.jet.shut b }) rfl hr hl
    obtain ⟨b', shut⟩ := enterState_shut .running (some .wait) { frameEnded .pendant s with
      cyc := { s.cyc with mstate := .running, phase := none, cycleStop := false }, jet := s.jet.shut b } rfl rfl
    have answered := passes.trans (startCycle_clear hcontact ((congrArg (continuationWith id) started).trans
      (waits.trans shut)))
    refine ⟨_, congrArg Host.Outcome.next ((serve_then htakes answered).trans (approachTaken_waiting (by simp [sendReply]))), rfl⟩
  · exact congrArg Host.Outcome.next (serve_refused_by_owner htakes (answerCycleStart_refused h))

/-! ### HOLD -/

theorem answerHold_outside (h : s.cyc.mstate.inCycle = false) : answerHold s = refused .wrongState s := by
  cases hm : s.cyc.mstate with
  | running | holding | held | resuming =>
    rw [hm] at h
    cases h
  | unconfigured | idle | homing | jogging | fault => rw [answerHold, hm]

/-- Settles O35, by machine state. -/
theorem holdRequest : Obligations.HoldRequest := by
  intro p tag s hready
  have htakes : Takes s p .hold := takes_of_read (.inr rfl) hready
  have served {t : State} (ha : answerHold (frameEnded p s) = accepted [] t) :
      exec (.hold p tag) s = .next (sendReply p tag .ok [] t) := congrArg Host.Outcome.next (serve_accepted htakes ha)
  have running (hm : s.cyc.mstate = .running) : answerHold (frameEnded p s)
      = if s.cyc.abortPending then accepted [] (frameEnded p s)
        else if pierceInProgress s then accepted [] ((frameEnded p s).onCyc fun c => { c with deferredHold := true })
        else accepted [] (takeHold .request {} (frameEnded p s)) := by
    rw [answerHold, show (frameEnded p s).cyc.mstate = .running from hm]
    rfl
  have resuming (hm : s.cyc.mstate = .resuming) : answerHold (frameEnded p s)
      = accepted [] (if s.cyc.abortPending then frameEnded p s else takeHold .request {} (frameEnded p s)) := by
    rw [answerHold, show (frameEnded p s).cyc.mstate = .resuming from hm]
    rfl
  refine ⟨fun hm ha hpierce => ?_, fun hm ha hpierce => ?_, fun h hm ha hh => ?_, fun h => ?_, fun hm => ?_⟩
  · refine served ((running hm).trans ?_)
    rw [ha, hpierce]
    rfl
  · refine ⟨_, served ((running hm).trans ?_), takeHold_taken _ _ _ ha⟩
    rw [ha, hpierce]
    rfl
  · have taken := takeHold_taken (frameEnded p s) .request {} ha
    refine ⟨_, served ((resuming hm).trans ?_), taken, ?_⟩
    · rw [ha]
      rfl
    · rw [taken]
      refine congrArg some ?_
      have kept : (if (frameEnded p s).cyc.mstate = .resuming then (frameEnded p s).cyc.hold else none) = some h :=
        (if_pos hm).trans hh
      rw [writtenHold, kept]
      rfl
  · obtain hm | hm | ⟨hm | hm, ha⟩ := h
    · exact served (by rw [answerHold, show (frameEnded p s).cyc.mstate = _ from hm])
    · exact served (by rw [answerHold, show (frameEnded p s).cyc.mstate = _ from hm])
    · exact served ((running hm).trans (if_pos ha))
    · exact served ((resuming hm).trans (by rw [ha]; rfl))
  · exact congrArg Host.Outcome.next (serve_refused_by_owner htakes (answerHold_outside (s := frameEnded p s) hm))

/-! ### CYCLE_STOP and ABORT -/

theorem answerCycleStop_inCycle (h : s.cyc.mstate.inCycle = true) :
    answerCycleStop s = accepted [] (if s.cyc.phase = some .wait then endCycle s
      else s.onCyc fun c => { c with cycleStop := true }) := by
  rw [answerCycleStop, if_neg (by rw [h]; decide)]
  split <;> rfl

/-- In phase WAIT an ABORT ends the cycle (R124). -/
theorem abortEffect_wait (h : s.cyc.mstate.inCycle = true) (hp : s.cyc.phase = some .wait) : abortEffect s = endCycle s := by
  cases hm : s.cyc.mstate with
  | running | holding | held | resuming =>
    rw [abortEffect, hm]
    exact if_pos hp
  | unconfigured | idle | homing | jogging | fault =>
    rw [hm] at h
    cases h

/-- Outside WAIT and HELD it closes the jet and brings the motion to rest. -/
theorem abortEffect_cycle (hm : s.cyc.mstate = .running ∨ s.cyc.mstate = .holding ∨ s.cyc.mstate = .resuming)
    (hp : s.cyc.phase ≠ some .wait) : abortEffect s = abortCycle s := by
  obtain hm | hm | hm := hm
  all_goals
    rw [abortEffect, hm]
    exact if_neg hp

theorem abortEffect_held (hm : s.cyc.mstate = .held) (hp : s.cyc.phase ≠ some .wait) : abortEffect s = abandonByAbort s := by
  rw [abortEffect, hm]
  exact if_neg hp

/-- The jet closed and the motion told to stop, with the ABORT pending: what waits for rest (R124). -/
theorem abortCycle_eq (ha : s.cyc.abortPending = false) :
    ∃ b, abortCycle s = settleRest { s with
      cyc := { s.cyc with abortPending := true }
      jet := { s.jet.shut b with demand := closedDemand s }
      path := { s.path with motion := if pathStill s then .rest else .decel }
      zmotion := s.zmotion.halted } := by
  rw [abortCycle, if_neg (by rw [ha]; decide), closeJet_eq, stopMotion_of (b := pathStill s)]
  · exact ⟨_, rfl⟩
  · exact pathStill_congr rfl rfl

/-- An ABORT whose motion is at rest abandons the active contour (R12, R124). -/
theorem abandonByAbort_eq {c : Fin Config.contours} (hc : s.cyc.active = some c) :
    ∃ b, abandonByAbort s = { s with
      cyc := { s.cyc with
        mstate := .idle, phase := none, hold := none, deferredHold := false, abortPending := false, suspension := false
        active := none }
      prog := programAbandoned .abort s
      jet := s.jet.shut b
      path := { s.path with cursor := none, speedSq := 0, motion := .rest } } := by
  have prog : programAbandoned .abort s = { s.prog with
      contours := s.prog.contours.set c ((s.contour? c).map (Contour.abandoned .abort))
      segments := s.prog.segments.filter fun g => g.contour != c } := by
    rw [programAbandoned, hc]
    rfl
  rw [abandonByAbort, dropActive_some s _ c hc, endCycle_eq, prog]
  exact ⟨_, rfl⟩

theorem halted_rest_iff {z : ZMotion} : z.halted = .rest ↔ z = .rest := by
  cases z <;> simp [ZMotion.halted]

/-- Whether motion that is told to stop is at rest at once. -/
theorem atRest_halted {cyc : CycleController} {jet : Jet} : atRest { s with
      cyc := cyc, jet := jet
      path := { s.path with motion := if pathStill s then .rest else .decel }
      zmotion := s.zmotion.halted } = atRest s := by
  rw [atRest_stopped _ (pathStill s) rfl, atRest]
  refine congrArg _ (Bool.eq_iff_iff.mpr ?_)
  rw [beq_iff_eq, beq_iff_eq]
  exact halted_rest_iff

theorem preCharge_iff {c : CycleController} :
    preCharge c = true ↔ c.mstate = .running ∧ (c.phase = some .approach ∨ c.phase = some .probe ∨ c.phase = some .pierce) := by
  simp only [preCharge, Bool.and_eq_true, Bool.or_eq_true, beq_iff_eq, or_assoc]

/-- Settles O37, by machine state and phase. -/
theorem cycleStopAndAbort : Obligations.CycleStopAndAbort := by
  intro p tag s hready ended preCharged
  have takesStop : Takes s p .cycleStop := takes_of_read (.inr rfl) hready
  have stop {t : State} (ha : answerCycleStop (frameEnded p s) = accepted [] t) :
      exec (.cycleStop p tag) s = .next (sendReply p tag .ok [] t) := congrArg Host.Outcome.next (serve_accepted takesStop ha)
  have abort {t : State} (ha : abortEffect (frameEnded p s) = t) :
      exec (.abort p tag) s = .next (sendReply p tag .ok [] t) :=
    congrArg Host.Outcome.next (serve_accepted (takes_of_read (.inr rfl) hready) (congrArg (accepted []) ha))
  refine ⟨fun hm hp => ?_, fun hm hp => ?_, fun hm => ?_, fun hm hp ha hrest => ?_, fun hm hp ha => ?_,
    fun c hm hp hc => ?_, fun hm hj => ?_, fun hm => ?_⟩
  · exact stop ((answerCycleStop_inCycle (s := frameEnded p s) hm).trans (congrArg _ (if_neg hp)))
  · have ends := endCycle_eq (frameEnded p s)
    refine ⟨_, stop ((answerCycleStop_inCycle (s := frameEnded p s) hm).trans (congrArg _ ((if_pos hp).trans ends))),
      abort ((abortEffect_wait (s := frameEnded p s) hm hp).trans ends), rfl⟩
  · refine congrArg Host.Outcome.next (serve_refused_by_owner takesStop ?_)
    exact if_pos (by rw [show (frameEnded p s).cyc.mstate.inCycle = false from hm]; rfl)
  · obtain ⟨b, aborted⟩ := abortCycle_eq (s := frameEnded p s) ha
    rw [settleRest_moving _ ((atRest_halted (s := frameEnded p s)).trans hrest)] at aborted
    refine ⟨_, abort ((abortEffect_cycle (s := frameEnded p s) hm hp).trans aborted), rfl, fun hpre => ?_, fun hpre => ?_⟩
    · exact if_pos (preCharge_iff.mpr hpre)
    · exact if_neg (mt preCharge_iff.mp hpre)
  · exact abort ((abortEffect_cycle (s := frameEnded p s) hm hp).trans (if_pos ha))
  · obtain hm | ⟨hm, ha, hrest⟩ := hm
    · obtain ⟨b, gone⟩ := abandonByAbort_eq (s := frameEnded p s) hc
      exact ⟨_, abort ((abortEffect_held (s := frameEnded p s) hm hp).trans gone), rfl⟩
    · obtain ⟨b, aborted⟩ := abortCycle_eq (s := frameEnded p s) ha
      rw [settleRest_abort _ ((atRest_halted (s := frameEnded p s)).trans hrest) rfl] at aborted
      obtain ⟨b', gone⟩ := abandonByAbort_eq (s := { frameEnded p s with
        cyc := { s.cyc with abortPending := true }
        jet := { s.jet.shut b with demand := closedDemand (frameEnded p s) }
        path := { s.path with motion := if pathStill s then .rest else .decel }
        zmotion := s.zmotion.halted }) hc
      refine ⟨_, abort ((abortEffect_cycle (s := frameEnded p s) hm hp).trans (aborted.trans gone)), ?_⟩
      have still : s.zmotion.halted = s.zmotion := by
        rw [atRest, Bool.and_eq_true, beq_iff_eq] at hrest
        rw [hrest.2]
        rfl
      rw [still]
      rfl
  · refine abort ?_
    rw [abortEffect, show (frameEnded p s).cyc.mstate = .jogging from hm]
    exact if_pos (Option.isSome_iff_ne_none.mpr hj)
  · obtain hm | hm | hm := hm
    all_goals
      refine abort ?_
      rw [abortEffect, show (frameEnded p s).cyc.mstate = _ from hm]

end Sys2Proof.Proofs
end

section
/-! THE OVERRIDE, THE KEY MODE, HOLD CAUSES AND JET TIME. The effective override changes the Profile Generator alone; a
hold cause takes a hold or raises its alert, by machine state. -/

namespace Sys2Proof.Proofs

open Sys2Proof.Machine

variable {s t : State}

/-! ### The override (R77, R78) -/

theorem clampOverride_eq (v : Nat) : clampOverride v = if v < 10 then 10 else if 100 < v then 100 else v := by
  unfold clampOverride
  split
  · omega
  · split <;> omega

theorem clampToEnvelope_still (h : s.path.cursor = none ∨ s.path.motion = .rest) : clampToEnvelope s = s := by
  unfold clampToEnvelope
  obtain h | h := h
  · rw [h]
    split <;> trivial
  · split
    · exact if_neg (by simp [h])
    · rfl

theorem isJet_of_ne {c : SegClass} (h : c ≠ .traverse) : c.isJet = true := by
  cases c with
  | traverse => exact absurd rfl h
  | leadin | cut | tab | leadout => rfl

/-- FORWARD motion on a planned jet segment is brought down to its scaled envelope. -/
theorem clampToEnvelope_moving {m : MachineSetup} {q : Pos} {g : Segment} {pl : Plan} (hm : s.setups.setup = some m)
    (hq : s.path.cursor = some q) (hg : s.cursorSegment = some g) (hc : g.cls ≠ .traverse) (hp : g.plan = some pl)
    (hd : s.path.dir = .forward) (hr : s.path.motion ≠ .rest) :
    clampToEnvelope s = { s with path := { s.path with
      speedSq := min s.path.speedSq (scaledEnvelope m.accel s.path.override pl g.len q.dist
        * scaledEnvelope m.accel s.path.override pl g.len q.dist) } } := by
  rw [clampToEnvelope, hm, hq, hg]
  dsimp only
  rw [if_pos (by simp [isJet_of_ne hc, hd, hr]), scaledAt, hp]
  rfl

/-- Forming the effective override changes the override and at most the speed. -/
theorem formOverride_path (s : State) : ∃ v, formOverride s
    = { s with path := { s.path with override := s.ports.keyMode.cap s.cyc.reqOverride, speedSq := v } } := by
  unfold formOverride clampToEnvelope
  split
  · split
    · exact ⟨_, rfl⟩
    · exact ⟨_, rfl⟩
  · exact ⟨_, rfl⟩

theorem formOverride_still (h : s.path.cursor = none ∨ s.path.motion = .rest) :
    formOverride s = { s with path := { s.path with override := s.ports.keyMode.cap s.cyc.reqOverride } } :=
  clampToEnvelope_still h

/-! ### The key mode (R187) -/

/-- The key lines spell a new mode. -/
theorem keyRead_changed {k : KeyMode} (hd : KeyMode.decode s.lines.key1 s.lines.key0 = some k) (hk : s.ports.keyMode ≠ k) :
    keyRead s = keyActs k (formOverride (s.onPorts fun p => { p with keyMode := k })) := by
  rw [keyRead, hd]
  exact if_neg (Ne.symm hk)

/-- KEY_MODE_CHANGE with levels that spell a new mode. -/
theorem exec_keyModeChange {k1 k0 : Bool} {k : KeyMode} (hl : Live s) (hd : KeyMode.decode k1 k0 = some k)
    (hk : s.ports.keyMode ≠ k) :
    exec (.keyModeChange k1 k0) s = .next (keyActs k (formOverride { s with
      lines := { s.lines with key1 := k1, key0 := k0 }, ports := { s.ports with keyMode := k } })) :=
  congrArg Host.Outcome.next ((live_live (s.onLines fun l => { l with key1 := k1, key0 := k0 }) keyRead hl).trans
    (keyRead_changed (s := s.onLines fun l => { l with key1 := k1, key0 := k0 }) hd hk))

/-- In PRODUCTION only a homing, a jog and an escape jog are acted on. -/
theorem keyActs_production (h1 : s.cyc.mstate ≠ .homing) (h2 : s.cyc.mstate ≠ .jogging) (h3 : s.cyc.mstate ≠ .fault) :
    keyActs .production s = s := by
  cases hm : s.cyc.mstate with
  | homing => exact absurd hm h1
  | jogging => exact absurd hm h2
  | fault => exact absurd hm h3
  | unconfigured | idle | running | holding | held | resuming => simp only [keyActs, hm]

/-- Settles O40. -/
theorem overrideAndKeyMode : Obligations.OverrideAndKeyMode := by
  refine ⟨?_, fun s hl hk hstill => ?_, fun s hl hk hstill h1 h2 h3 => ?_, fun s hl => ?_⟩
  · intro tag v s hready req eff items
    have htakes : Takes s .pendant (.setOverride v) := takes_of_operator rfl hready
    have clamped : clampOverride v = req := clampOverride_eq v
    have capped : s.ports.keyMode.cap req = eff := cap_eq _ _
    have answered {p : ProfileGenerator} (hp : p.override = eff)
        (hf : formOverride ((frameEnded .pendant s).onCyc fun c => { c with reqOverride := req })
          = { frameEnded .pendant s with cyc := { s.cyc with reqOverride := req }, path := p }) :
        exec (.setOverride .pendant tag v) s = .next (sendReply .pendant tag .ok items
          { frameEnded .pendant s with cyc := { s.cyc with reqOverride := req }, path := p }) := by
      refine congrArg Host.Outcome.next (serve_accepted htakes ?_)
      rw [answerSetOverride, clamped, hf]
      exact congrArg (fun e => accepted (num1 req ++ num1 e) _) hp
    refine ⟨fun hstill => answered rfl ?_, fun m q g pl hm hq hg hc hp hd hr => answered rfl ?_⟩
    · refine (formOverride_still (by exact hstill)).trans ?_
      rw [← capped]
      rfl
    · refine (clampToEnvelope_moving (s := ((frameEnded .pendant s).onCyc fun c => { c with reqOverride := req }).onPath
        fun y => { y with override := (frameEnded .pendant s).ports.keyMode.cap req }) hm hq hg hc hp hd hr).trans ?_
      rw [← capped]
      rfl
  · rw [exec_keyModeChange hl (k := .setup) rfl hk]
    exact congrArg Host.Outcome.next (formOverride_still hstill)
  · rw [exec_keyModeChange hl (k := .production) rfl hk, formOverride_still (by exact hstill)]
    exact congrArg Host.Outcome.next (keyActs_production (by exact h1) (by exact h2) (by exact h3))
  · exact congrArg Host.Outcome.next (live_live (s.onLines fun l => { l with key1 := true, key0 := true }) keyRead hl)

/-! ### Hold causes (R125, R126, R129, R152) -/

theorem holdCause_taken (s : State) (cause : HoldCause) (d : AlertDetail) (hm : s.cyc.mstate = .running ∨ s.cyc.mstate = .resuming)
    (ha : s.cyc.abortPending = false) : HoldTaken cause d s (holdCause cause d s) := by
  have taken : holdCause cause d s = takeHold cause d s := by
    obtain hm | hm := hm
    all_goals
      rw [holdCause, hm]
      exact if_neg (by rw [ha]; decide)
  rw [taken]
  exact takeHold_taken s cause d ha

/-- A state in which a hold cause takes no hold and raises its alert. -/
def RaisesOnly (s : State) : Prop :=
  s.cyc.mstate = .holding ∨ s.cyc.mstate = .held ∨ s.cyc.mstate = .fault
    ∨ ((s.cyc.mstate = .running ∨ s.cyc.mstate = .resuming) ∧ s.cyc.abortPending = true)

theorem holdCause_raised {cause : HoldCause} {code : AlertCode} (d : AlertDetail) (hc : cause.alert = some code)
    (h : RaisesOnly s) :
    holdCause cause d s
      = { s with alert := some (recordAlert code d ⟨s.cyc.active, s.path.cursor, s.cyc.mstate⟩ s.alert) } := by
  have raised : holdCause cause d s = raiseHoldAlert cause d (alertContext s) s := by
    obtain hm | hm | hm | ⟨hm | hm, ha⟩ := h
    · rw [holdCause, hm]
    · rw [holdCause, hm]
    · rw [holdCause, hm]
    · rw [holdCause, hm]
      exact if_pos ha
    · rw [holdCause, hm]
      exact if_pos ha
  rw [raised, raiseHoldAlert_eq, hc]
  rfl

/-- A hold that finds the jet otherwise leaves the same: it shuts the jet. -/
theorem holdTaken_of_jet {cause : HoldCause} {d : AlertDetail} {j : Jet} (h : HoldTaken cause d { s with jet := j } t)
    (hj : ∀ b, j.shut b = s.jet.shut b) : HoldTaken cause d s t := by
  have prog : (State.modActive (fun r => { r with holds := min 255 (r.holds + 1) }) { s with jet := j }).prog
      = (s.modActive fun r => { r with holds := min 255 (r.holds + 1) }).prog := State.modActive_prog _ _ _ rfl rfl
  have shut : j.shut t.jet.bandIn = s.jet.shut t.jet.bandIn := hj _
  simp only [HoldTaken] at h ⊢
  rw [prog, shut] at h
  exact h

/-- The detail of a report of the Jet Controller (R102). -/
def jetDetail (s : State) : AlertDetail := { jetState := some s.jet.state, demand := some s.jet.demand }

theorem settleExpired_running {ms : Nat} (h : s.jet.settle = .running ms) :
    settleExpired s
      = holdCause .pressureSettle (jetDetail s) { s with jet := { s.jet with settle := .stopped } } := by
  rw [settleExpired, h]
  rfl

theorem dipExpired_running {ms : Nat} (h : s.jet.dip = .running ms) :
    dipExpired s
      = holdCause .pressureDip (jetDetail s) { s with jet := { s.jet with dip := .stopped, dipWatch := false } } := by
  rw [dipExpired, h]
  rfl

theorem graceTimerExpired_running {ms : Nat} (h : s.jet.abrasiveGrace = .running ms) :
    graceTimerExpired s = holdCause .abrasive (jetDetail s)
      { s with jet := { s.jet with abrasiveGrace := .stopped, abrasiveWatch := false } } := by
  rw [graceTimerExpired, h]
  rfl

theorem isOpen_iff {j : Jet} : j.isOpen = true ↔ j.state ≠ .closed := by
  rw [Jet.isOpen, bne_iff_ne]

theorem pumprdyNegated_closed (h : s.jet.state = .closed) : pumprdyNegated s = s :=
  if_neg (by rw [isOpen_iff, h]; simp)

/-- A PUMPRDY event that is no negation, or that finds the jet closed, changes the line alone. -/
theorem exec_pumprdyNegate_quiet (hl : Live s) (level : Bool)
    (h : s.jet.state = .closed ∨ s.lines.pumprdy = false ∨ level = true) :
    exec (.pumprdyNegate level) s = .next { s with lines := { s.lines with pumprdy := level } } := by
  refine congrArg Host.Outcome.next ?_
  obtain h | h | rfl := h
  · dsimp only
    split
    · exact (live_live (s.onLines fun l => { l with pumprdy := level }) pumprdyNegated hl).trans (pumprdyNegated_closed h)
    · rfl
  · exact if_neg (by simp [h])
  · exact if_neg (by simp)

/-- A negation that finds the jet open is a report. -/
theorem exec_pumprdyNegate_open (hl : Live s) (hp : s.lines.pumprdy = true) (hj : s.jet.state ≠ .closed) :
    exec (.pumprdyNegate false) s
      = .next (holdCause .pump (jetDetail s) { s with lines := { s.lines with pumprdy := false } }) := by
  refine congrArg Host.Outcome.next ((if_pos (by rw [hp]; rfl)).trans ?_)
  refine (live_live (s.onLines fun l => { l with pumprdy := false }) pumprdyNegated hl).trans ?_
  exact if_pos (isOpen_iff.mpr hj)

/-- Settles O36: in RUNNING and RESUMING each cause takes a hold, elsewhere it raises its alert. -/
theorem holdCauses : Obligations.HoldCauses := by
  refine ⟨?_, ?_⟩
  · intro s hl hm ha report
    refine ⟨fun ms h => ?_, fun ms h => ?_, fun ms h => ?_, fun hp hj => ?_, fun level h => exec_pumprdyNegate_quiet hl level h,
      fun z hz => ?_, fun hk => ?_⟩
    · refine ⟨_, congrArg Host.Outcome.next ((live_live s _ hl).trans (settleExpired_running h)), ?_⟩
      exact holdTaken_of_jet (holdCause_taken _ _ _ (by exact hm) (by exact ha)) fun _ => rfl
    · refine ⟨_, congrArg Host.Outcome.next ((live_live s _ hl).trans (dipExpired_running h)), ?_⟩
      exact holdTaken_of_jet (holdCause_taken _ _ _ (by exact hm) (by exact ha)) fun _ => rfl
    · refine ⟨_, congrArg Host.Outcome.next ((live_live s _ hl).trans (graceTimerExpired_running h)), ?_⟩
      exact holdTaken_of_jet (holdCause_taken _ _ _ (by exact hm) (by exact ha)) fun _ => rfl
    · exact ⟨_, exec_pumprdyNegate_open hl hp hj, holdCause_taken _ _ _ (by exact hm) (by exact ha)⟩
    · refine ⟨holdCause .noSurface {} (zReaches z s), congrArg Host.Outcome.next ((live_live s _ hl).trans ?_),
        holdCause_taken _ _ _ (by exact hm) (by exact ha)⟩
      rw [probeEnded, hz]
    · obtain ⟨v, formed⟩ := formOverride_path { s with
        lines := { s.lines with key1 := true, key0 := false }, ports := { s.ports with keyMode := .service } }
      exact ⟨_, exec_keyModeChange hl (k := .service) rfl hk,
        holdCause_taken _ _ _ (by rw [formed]; exact hm) (by rw [formed]; exact ha)⟩
  · intro s hl h report raised
    refine ⟨fun ms hs => ?_, fun ms hs => ?_, fun ms hs => ?_, fun hk => ?_, fun hj level =>
      exec_pumprdyNegate_quiet hl level (.inl hj)⟩
    · refine congrArg Host.Outcome.next ((live_live s _ hl).trans ((settleExpired_running hs).trans ?_))
      exact holdCause_raised _ rfl (by exact h)
    · refine congrArg Host.Outcome.next ((live_live s _ hl).trans ((dipExpired_running hs).trans ?_))
      exact holdCause_raised _ rfl (by exact h)
    · refine congrArg Host.Outcome.next ((live_live s _ hl).trans ((graceTimerExpired_running hs).trans ?_))
      exact holdCause_raised _ rfl (by exact h)
    · obtain ⟨v, formed⟩ := formOverride_path { s with
        lines := { s.lines with key1 := true, key0 := false }, ports := { s.ports with keyMode := .service } }
      rw [exec_keyModeChange hl (k := .service) rfl hk, formed]
      exact congrArg Host.Outcome.next (holdCause_raised _ rfl (by exact h))

/-! ### Jet time (R109) -/

/-- A mark that stays as it was is not newly reached. -/
theorem not_newly {b : Bool} : (b && !b) = false := by cases b <;> rfl

/-- Settles O45. -/
theorem jetTimeCounts : Obligations.JetTimeCounts := by
  intro s hl
  refine ⟨fun hj => ?_, fun hj => ?_⟩
  · refine congrArg Host.Outcome.next ((live_live s _ hl).trans (if_neg ?_))
    rw [isOpen_iff, hj]
    simp
  · refine ⟨_, congrArg Host.Outcome.next ((live_live s _ hl).trans ((if_pos (isOpen_iff.mpr hj)).trans
      (testWear_eq _))), rfl, fun m hm => ⟨?_, ?_⟩, fun ht hn => ?_, fun r ht hs hn hr => ?_⟩
    · dsimp only [wearMark]
      rw [State.onJet_setups, hm]
      rfl
    · dsimp only [wearMark]
      rw [State.onJet_setups, hm]
      rfl
    · dsimp only at ht hn ⊢
      rw [ht, hn, State.onJet_jet, not_newly, not_newly]
      rfl
    · dsimp only at ht hn ⊢
      rw [ht, hn, State.onJet_jet, not_newly, hs, State.onJet_alert, hr]
      rfl

end Sys2Proof.Proofs
end

section
/-! THE JET'S TIMERS AND ITS SUPERVISION. When forming the demand again changes nothing, what entering a jet state leaves,
and the lines and timers of the Jet Controller, step by step of the pierce methods. -/

namespace Sys2Proof.Proofs

open Sys2Proof.Machine

variable {s t : State} {m : MachineSetup} {r : Contour} {f : ProcessSet}

/-! ### The demand and the jet states -/

theorem reformDemand_same (h : demandOf s = s.jet.demand) : reformDemand s = s := if_pos h

/-- The demand of a jet state other than RAMP. -/
def stateDemand (f : ProcessSet) : JetState → Nat
  | .closed | .low | .ramp => f.pPierce
  | .cut => f.pCut
  | .tab => f.pTab

/-- The demand of a jet that has entered a state. -/
theorem demandOf_entered {js : JetState} (hf : s.activeSet = some f) (hj : s.jet.state = js) (h1 : js ≠ .closed)
    (h2 : js ≠ .ramp) : demandOf s = stateDemand f js := by
  rw [demandOf, hf, hj]
  cases js with
  | closed => exact absurd rfl h1
  | ramp => exact absurd rfl h2
  | low | cut | tab => rfl

/-- The jet enters LOW, CUT or TAB at a demand that leaves PFB outside the band: the settle timer starts (R97). -/
theorem enterJet_settles {js : JetState} {onBand : State → State} (hm : s.setups.setup = some m)
    (hv : valvesAllowed s.cyc = true) (hf : s.activeSet = some f) (h1 : js ≠ .closed) (h2 : js ≠ .ramp)
    (hb : bandAfter (stateDemand f js) s = false) :
    enterJet js onBand s = { s with jet := { s.jet with
      state := js, demand := stateDemand f js, bandIn := false, settle := .running m.settleLimit, dip := .stopped
      dipWatch := false } } := by
  have demand : demandOf (s.onJet fun j => { j with state := js, settle := .stopped, dip := .stopped, dipWatch := false })
      = stateDemand f js := demandOf_entered hf rfl h1 h2
  have out : bandAfter (stateDemand f js)
      (s.onJet fun j => { j with state := js, settle := .stopped, dip := .stopped, dipWatch := false }) = false := hb
  rw [enterJet, hm]
  dsimp only
  rw [if_neg (by rw [hv]; decide), reformDemand_eq, demand, out]
  rfl

/-- At a demand that is the present one the band state stays. -/
theorem bandAfter_same (s : State) : bandAfter s.jet.demand s = s.jet.bandIn := if_pos rfl

theorem enterState_again {mst : MachineState} {ph : Option Phase} (hm : s.cyc.mstate = mst) (hp : s.cyc.phase = ph)
    (hv : valvesAllowed s.cyc = true) (hd : demandOf s = s.jet.demand) : enterState mst ph s = s := by
  subst hm hp
  exact (enterState_open s _ _ hv).trans (reformDemand_same hd)

theorem withCut_some {g : MachineSetup → Contour → ProcessSet → State → State} (hm : s.setups.setup = some m)
    (hr : s.activeContour = some r) (hf : s.activeSet = some f) : withCut g s = g m r f s := by
  rw [withCut, hm, hr, hf]

theorem withSetup_some {g : MachineSetup → State → State} (hm : s.setups.setup = some m) : withSetup g s = g m s := by
  rw [withSetup, hm]

theorem startDwell_runs {p : PierceTimer} {ms : Nat} {ended : State → State} (h : 0 < ms) :
    startDwell p ms ended s = s.onJet fun j => { j with pierceTimer := p } :=
  if_neg (by omega)

/-! ### The lines and timers of the Jet Controller -/

theorem startGrace_runs (h : 0 < m.abrasiveGrace) :
    startGrace m s = s.onJet fun j => { j with abrasiveGrace := .running m.abrasiveGrace } :=
  if_neg (by omega)

/-- The band state at the present demand (R96). -/
theorem bandOf_setup (hm : s.setups.setup = some m) (d v : Nat) : bandOf s d v = decide (absDiff v d ≤ m.pressureBand) := by
  rw [bandOf, hm]

/-- A change of PFB with the band state it gives. -/
theorem exec_pfbChange (hl : Live s) (hm : s.setups.setup = some m) (v : Nat) {now : Bool}
    (hn : decide (absDiff v s.jet.demand ≤ m.pressureBand) = now) :
    exec (.pfbChange v) s
      = .next (let u := { s with lines := { s.lines with pfb := v }, jet := { s.jet with bandIn := now } }
          if s.jet.state.banded then
            if now && !s.jet.bandIn then bandEntered u else if s.jet.bandIn && !now then bandLost u else u
          else u) := by
  refine congrArg Host.Outcome.next ((live_live (s.onLines fun l => { l with pfb := v }) pfbChanged hl).trans ?_)
  have band : bandOf (s.onLines fun l => { l with pfb := v }) s.jet.demand v = now := (bandOf_setup (by exact hm) _ _).trans hn
  rw [pfbChanged]
  exact congrArg (fun b => let u := { s with lines := { s.lines with pfb := v }, jet := { s.jet with bandIn := b } }
    if s.jet.state.banded then
      if b && !s.jet.bandIn then bandEntered u else if s.jet.bandIn && !b then bandLost u else u
    else u) band

/-- A change of PFB that is a band entry. -/
theorem exec_pfbChange_entry (hl : Live s) (hm : s.setups.setup = some m) {v : Nat} (hb : s.jet.state.banded = true)
    (hw : s.jet.bandIn = false) (hn : absDiff v s.jet.demand ≤ m.pressureBand) :
    exec (.pfbChange v) s
      = .next (bandEntered { s with lines := { s.lines with pfb := v }, jet := { s.jet with bandIn := true } }) := by
  rw [exec_pfbChange hl hm v (decide_eq_true hn), hb, hw]
  rfl

theorem banded_of_open {js : JetState} (h : js = .cut ∨ js = .tab) : js.banded = true ∧ js.watched = true := by
  obtain rfl | rfl := h <;> exact ⟨rfl, rfl⟩

theorem bandHanded_none (hm : s.cyc.mstate = .running) (hp : s.jet.pierceStep = none) : bandHanded s = s := by
  unfold bandHanded
  rw [if_neg (by simp [hm]), hp]
  cases activeMethod s with
  | none => rfl
  | some method => cases method <;> rfl

theorem activeMethod_some (hr : s.activeContour = some r) : activeMethod s = some r.method := by
  rw [activeMethod, hr]
  rfl

/-- Settles O44. -/
theorem jetSupervision : Obligations.JetSupervision := by
  refine ⟨fun m s hl hm => ⟨fun ha => ?_, fun ha hw hg => ?_, fun ha hw => ?_, fun ms hd hg => ?_, fun v hj => ?_,
    fun v hj hb hw hv => ?_, fun v hj hb hs hv => ?_⟩, fun m r f v ms s hl hm hr hf hrun hb hs hv =>
      ⟨fun hj hp => ?_, fun hj hmethod hp ht => ?_⟩⟩
  · refine congrArg Host.Outcome.next ((if_pos (by rw [ha]; rfl)).trans ?_)
    exact live_live (s.onLines fun l => { l with abrflow := true }) abrflowAsserted hl
  · refine congrArg Host.Outcome.next ((if_pos ha).trans ?_)
    refine (live_live (s.onLines fun l => { l with abrflow := false }) abrflowNegated hl).trans ?_
    refine (withSetup_some (by exact hm)).trans ((if_pos (by exact hw)).trans (startGrace_runs hg))
  · refine congrArg Host.Outcome.next ((if_pos ha).trans ?_)
    refine (live_live (s.onLines fun l => { l with abrflow := false }) abrflowNegated hl).trans ?_
    exact (withSetup_some (by exact hm)).trans (if_neg (by rw [State.onLines_jet, hw]; decide))
  · refine congrArg Host.Outcome.next ((live_live s _ hl).trans ?_)
    have expired : delayExpired s = readAbrasive m s := by
      rw [delayExpired, hd]
      exact withSetup_some hm
    rw [expired, readAbrasive]
    cases hflow : s.lines.abrflow with
    | true => exact if_pos hflow
    | false =>
      refine (if_neg (by rw [State.onJet_lines, hflow]; decide)).trans (startGrace_runs ?_)
      exact hg.resolve_left (by rw [hflow]; decide)
  · have quiet : s.jet.state.banded = false := by obtain hj | hj := hj <;> rw [hj] <;> rfl
    rw [exec_pfbChange hl hm v rfl, quiet]
    rfl
  · rw [exec_pfbChange hl hm v (decide_eq_false (by omega)), (banded_of_open hj).1, hb]
    exact congrArg Host.Outcome.next ((withSetup_some (by exact hm)).trans (if_pos (by exact hw)))
  · rw [exec_pfbChange_entry hl hm (banded_of_open hj).1 hb hv, bandEntered]
    dsimp only
    rw [hs]
    rfl
  · rw [exec_pfbChange_entry hl hm (banded_of_open hj).1 hb hv, bandEntered]
    dsimp only
    rw [hs]
    dsimp only
    rw [bandHanded_none (by exact hrun) (by exact hp)]
    exact congrArg (fun b => Host.Outcome.next { s with
      lines := { s.lines with pfb := v }
      jet := { s.jet with bandIn := true, settle := .stopped, dipWatch := b } }) (banded_of_open hj).2
  · have banded : s.jet.state.banded = true := by rw [hj]; rfl
    rw [exec_pfbChange_entry hl hm banded hb hv, bandEntered]
    dsimp only
    rw [hs]
    dsimp only
    have handed (u : State) (hu : activeMethod u = some .static) (hm : u.cyc.mstate = .running)
        (hp : u.jet.pierceStep = some 2) : bandHanded u = static3 u := by
      rw [bandHanded, if_neg (by simp [hm]), hu, hp]
      rfl
    rw [handed _ ((activeMethod_some (by exact hr)).trans (congrArg some hmethod)) (by exact hrun) (by exact hp), static3,
      withCut_some (by exact hm) (by exact hr) (by exact hf), startDwell_runs ht]
    refine congrArg Host.Outcome.next ?_
    have unwatched : s.jet.state.watched = false := by rw [hj]; rfl
    exact congrArg (fun b => { s with
      lines := { s.lines with pfb := v }
      jet := { s.jet with
        bandIn := true, settle := .stopped, dipWatch := b, pierceStep := some 3, pierceTimer := .tLow f.tLow } }) unwatched

/-! ### The pierce timer (R99, R103 to R106) -/

theorem rampDemand_zero (f : ProcessSet) : rampDemand f 0 = f.pPierce := by
  rw [rampDemand, Nat.mul_zero, Nat.zero_div, Nat.add_zero]

/-- The demand of a jet in RAMP. -/
theorem demandOf_ramp (hf : s.activeSet = some f) (hj : s.jet.state = .ramp) :
    demandOf s = rampDemand f s.jet.pierceTimer.rampElapsed := by
  rw [demandOf, hf, hj]

/-- The ramp begins at the pre-charge (R99). -/
theorem enterRamp_starts {ms : Nat} (hv : valvesAllowed s.cyc = true) (hf : s.activeSet = some f)
    (hd : s.jet.demand = f.pPierce) :
    enterRamp ms s = { s with jet := { s.jet with
      state := .ramp, settle := .stopped, dip := .stopped, dipWatch := false, pierceTimer := .ramp 0 ms } } := by
  refine (if_neg (by rw [hv]; decide)).trans (reformDemand_same ?_)
  exact (demandOf_ramp (f := f) (by exact hf) (by rfl)).trans ((rampDemand_zero f).trans hd.symm)

/-- STATIC, step 4 (R104). -/
theorem static4_ramps (hm : s.setups.setup = some m) (hr : s.activeContour = some r) (hf : s.activeSet = some f)
    (hv : valvesAllowed s.cyc = true) (hd : s.jet.demand = f.pPierce) (ht : 0 < f.tRamp) :
    static4 s = { s with jet := { s.jet with
      state := .ramp, settle := .stopped, dip := .stopped, dipWatch := false, pierceStep := some 4
      pierceTimer := .ramp 0 f.tRamp } } := by
  refine (withCut_some hm hr hf).trans ((if_neg (by omega)).trans ?_)
  exact enterRamp_starts (by exact hv) (by exact hf) (by exact hd)

/-- CREEP, step 4 (R105). -/
theorem creep4_ramps (hm : s.setups.setup = some m) (hr : s.activeContour = some r) (hf : s.activeSet = some f)
    (hrun : s.cyc.mstate = .running) (hj : s.jet.state = .low) (hd : s.jet.demand = f.pPierce) (ht : 0 < f.tRamp) :
    creep4 s = { s with
      cyc := { s.cyc with phase := some .cut }
      path := { s.path with motion := .run, dir := .forward }
      jet := { s.jet with
        state := .ramp, settle := .stopped, dip := .stopped, dipWatch := false, pierceStep := some 4
        pierceTimer := .ramp 0 f.tRamp } } := by
  have entered : enterState .running (some .cut) (setStep (some 4) s) = { s with
      cyc := { s.cyc with phase := some .cut }, jet := { s.jet with pierceStep := some 4 } } := by
    refine (enterState_open (setStep (some 4) s) .running (some .cut) rfl).trans ((reformDemand_same ?_).trans ?_)
    · exact (demandOf_entered (f := f) (js := .low) (by exact hf) (by exact hj) (by decide) (by decide)).trans hd.symm
    · rw [← hrun]
      rfl
  refine (withCut_some hm hr hf).trans ((if_neg (by omega)).trans ?_)
  rw [entered]
  exact congrArg releasePath (enterRamp_starts (f := f) (valvesAllowed_iff _ |>.mpr (by exact ⟨.inl hrun, .inr rfl⟩))
    (by exact hf) (by exact hd))

/-- The record of the active contour changed. -/
theorem modActive_some {c : Fin Config.contours} (hc : s.cyc.active = some c) (hr : s.contour? c = some r)
    (g : Contour → Contour) :
    s.modActive g = { s with prog := { s.prog with contours := s.prog.contours.set c (some (g r)) } } := by
  rw [State.modActive, hc]
  exact modContour_some hr g

/-- A change of the active contour's record that keeps its slot keeps its process set. -/
theorem activeSet_record {c : Fin Config.contours} {r' : Contour} (hc : s.cyc.active = some c) (hr : s.contour? c = some r)
    (hslot : r'.slot = r.slot) :
    State.activeSet { s with prog := { s.prog with contours := s.prog.contours.set c (some r') } } = s.activeSet := by
  have changed : State.contour? { s with prog := { s.prog with contours := s.prog.contours.set c (some r') } } c = some r' := by
    simp [State.contour?]
  have after : State.activeContour { s with prog := { s.prog with contours := s.prog.contours.set c (some r') } } = some r' := by
    rw [State.activeContour]
    exact (congrArg (fun o : Option (Fin Config.contours) => o.bind (State.contour? _)) hc).trans changed
  have before : s.activeContour = some r := by
    rw [State.activeContour, hc]
    exact hr
  rw [State.activeSet, State.activeSet, after, before]
  exact congrArg s.setFields hslot

/-- The pierce completed with the jet in CUT, from PIERCE or in CUT (R103): the path goes on, or the deferred hold is
taken. -/
theorem pierceComplete_open {c : Fin Config.contours} (hc : s.cyc.active = some c) (hr : s.contour? c = some r)
    (hf : s.activeSet = some f) (hrun : s.cyc.mstate = .running) (hj : s.jet.state = .cut) (hd : s.jet.demand = f.pCut) :
    let u := { s with
      prog := { s.prog with contours := s.prog.contours.set c (some { r with pierceComplete := true }) }
      jet := { s.jet with pierceStep := none }
      cyc := { s.cyc with phase := some .cut } }
    pierceComplete s = if s.cyc.deferredHold then takeHold .request {} u else releasePath u := by
  intro u
  have entered : enterState .running (some .cut) (setStep none (s.modActive fun r => { r with pierceComplete := true })) = u := by
    rw [modActive_some hc hr, enterState_open _ _ _ (valvesAllowed_iff _ |>.mpr ⟨.inl rfl, .inr rfl⟩), ← hrun]
    refine reformDemand_same (s := u) ?_
    have set : u.activeSet = some f := (activeSet_record (s := s) (r' := { r with pierceComplete := true }) hc hr rfl).trans hf
    exact (demandOf_entered set hj (by decide) (by decide)).trans hd.symm
  unfold pierceComplete
  dsimp only
  rw [entered]

theorem pierceComplete_cut {c : Fin Config.contours} (hc : s.cyc.active = some c) (hr : s.contour? c = some r)
    (hf : s.activeSet = some f) (hrun : s.cyc.mstate = .running) (hp : s.cyc.phase = some .cut)
    (hj : s.jet.state = .cut) (hd : s.jet.demand = f.pCut) :
    let u := { s with
      prog := { s.prog with contours := s.prog.contours.set c (some { r with pierceComplete := true }) }
      jet := { s.jet with pierceStep := none } }
    pierceComplete s = if s.cyc.deferredHold then takeHold .request {} u else releasePath u := by
  have completed := pierceComplete_open hc hr hf hrun hj hd
  rw [← hp] at completed
  exact completed

/-- The end of the T_dwell dwell names the move to cut height (R104, R106). -/
theorem nameCutHeight {purpose : ZPurpose} {go : State → State} (h : s.axes.z.command ≠ cutHeight m r f) :
    nameZMove (cutHeight m r f) purpose go s
      = { s with axes := { s.axes with z := { s.axes.z with speedSq := 0 } }, zmotion := .moving (cutHeight m r f) purpose } :=
  nameZMove_away s _ _ _ h

/-- Settles O43. -/
theorem pierceTimers : Obligations.PierceTimers := by
  refine ⟨fun m r f s hl hrun hp hm hr hf => ?_, fun k ms m c r f s hl hrun ha hp hm hc hr hmethod hf hj htimer hd hb => ?_⟩
  · have valves : valvesAllowed s.cyc = true := valvesAllowed_iff _ |>.mpr ⟨.inl hrun, .inl hp⟩
    have method {p : PierceMethod} (h : r.method = p) : activeMethod s = some p := (activeMethod_some hr).trans (congrArg some h)
    have event {c : Instr} {g : State → State} {u : State} (he : exec c s = .next (live g s)) (hg : g s = u) :
        exec c s = .next u := he.trans (congrArg Host.Outcome.next ((live_live s g hl).trans hg))
    refine ⟨fun ms hj ht hramp hd => ⟨fun h => event rfl ?_, fun h => event rfl ?_⟩, fun k ms hj ht hk => ?_,
      fun k ms hj ht h hd hb => event rfl ?_, fun ms ht h hz => event rfl ?_⟩
    · rw [tLowEnded, ht, method h]
      exact static4_ramps (by exact hm) (by exact hr) (by exact hf) (by exact valves) (by exact hd) hramp
    · rw [tLowEnded, ht, method h]
      exact creep4_ramps (by exact hm) (by exact hr) (by exact hf) (by exact hrun) (by exact hj) (by exact hd) hramp
    · have ticked : rampTicked s = reformDemand (s.onJet fun j => { j with pierceTimer := .ramp (k + 1) ms }) := by
        rw [rampTicked, ht]
        exact if_pos (by simp [hj, hk])
      have demand : demandOf (s.onJet fun j => { j with pierceTimer := .ramp (k + 1) ms }) = rampDemand f (k + 1) :=
        demandOf_ramp (by exact hf) (by exact hj)
      rw [reformDemand_eq, demand] at ticked
      exact ⟨_, event rfl ticked, rfl⟩
    · rw [rampEnded, ht, method h]
      refine (enterJet_settles (f := f) (by exact hm) (by exact valves) (by exact hf) (by decide) (by decide) ?_).trans ?_
      · exact (congrArg (bandAfter · s) hd.symm).trans ((bandAfter_same s).trans hb)
      · rw [stateDemand, ← hd, ← hb]
        rfl
    · obtain h | h := h
      · rw [tDwellEnded, ht, method h]
        refine (withCut_some (by exact hm) (by exact hr) (by exact hf)).trans ((nameCutHeight (by exact hz)).trans ?_)
        rw [if_pos h]
        rfl
      · rw [tDwellEnded, ht, method h]
        refine (withCut_some (by exact hm) (by exact hr) (by exact hf)).trans ((nameCutHeight (by exact hz)).trans ?_)
        rw [if_neg (by rw [h]; decide)]
        rfl
  · have valves : valvesAllowed s.cyc = true := valvesAllowed_iff _ |>.mpr ⟨.inl hrun, .inr hp⟩
    have active : s.activeContour = some r := by
      rw [State.activeContour, hc]
      exact hr
    have entered : enterJet .cut id (setStep (some 5) (stopPierceTimer s)) = { s with jet := { s.jet with
        state := .cut, settle := .running m.settleLimit, dip := .stopped, dipWatch := false, pierceStep := some 5
        pierceTimer := .stopped } } := by
      refine (enterJet_settles (f := f) (by exact hm) (by exact valves) (by exact hf) (by decide) (by decide) ?_).trans ?_
      · exact (congrArg (bandAfter · s) hd.symm).trans ((bandAfter_same s).trans hb)
      · rw [stateDemand, ← hd, ← hb]
        rfl
    have ended : rampEnded s = pierceComplete { s with jet := { s.jet with
        state := .cut, settle := .running m.settleLimit, dip := .stopped, dipWatch := false, pierceStep := some 5
        pierceTimer := .stopped } } := by
      rw [rampEnded, htimer, (activeMethod_some active).trans (congrArg some hmethod)]
      exact congrArg pierceComplete entered
    have complete := ended.trans (pierceComplete_cut (by exact hc) (by exact hr) (by exact hf) (by exact hrun)
      (by exact hp) rfl (by exact hd))
    have event {u : State} (hg : rampEnded s = u) : exec .rampEnd s = .next u :=
      congrArg Host.Outcome.next ((live_live s _ hl).trans hg)
    refine ⟨fun hh => ?_, fun hh => ?_⟩
    · refine event (complete.trans ((if_neg (by rw [hh]; decide)).trans rfl))
    · refine ⟨_, event (complete.trans (if_pos hh)), ?_⟩
      exact holdTaken_of_jet (takeHold_taken _ _ _ ha) fun _ => rfl

end Sys2Proof.Proofs
end

section
/-! FAULTS. The test of the fault cause, what the fault causes do outside FAULT and in it, with an escape jog under way or
not, and the release. -/

namespace Sys2Proof.Proofs

open Sys2Proof.Machine

variable {s t : State} {m : MachineSetup}

/-! ### The test of the fault cause (R151) -/

theorem present_firstLimit {l : Lines} {p : Axis × Side} (h : l.firstLimit = some p) :
    FaultCause.present l (.limit p.1 p.2) = true :=
  List.find?_some (p := fun q : Axis × Side => l.limit q.1 q.2) h

/-- A fault cause that has been tested stays under another test. -/
theorem causeLeft_again (fc : FaultCause) (l : Lines) : causeLeft (causeLeft fc l) l = causeLeft fc l := by
  by_cases hp : fc.present l = true
  · have kept : causeLeft fc l = fc := if_pos hp
    rw [kept, kept]
  · have left : causeLeft fc l = match l.firstLimit with | some p => .limit p.1 p.2 | none => fc := if_neg hp
    cases hl : l.firstLimit with
    | none =>
      rw [hl] at left
      rw [left, left]
    | some p =>
      rw [hl] at left
      rw [left]
      exact if_pos (present_firstLimit hl)

/-- During an escape jog the fault cause is not tested. -/
theorem retestCause_jogged {b : Axis} (hj : s.jog.axis = some b) : retestCause s = s := by
  rw [retestCause, hj]
  split <;> trivial

/-- The fault action leaves a fault cause that is tested already. -/
theorem retestCause_taken {fc : FaultCause} (h : FaultTaken fc s t) : retestCause t = t := by
  have cause : t.cyc.faultCause = some (causeLeft fc t.lines) := by rw [h]
  have tested := retestCause_fault t _ (by rw [h]) (by rw [h]; rfl) cause
  rw [causeLeft_again, ← cause] at tested
  exact tested

/-- A fault cause outside FAULT makes the fault action, and the test that follows changes nothing more. -/
theorem faultAction_tested (s : State) (fc : FaultCause) (h : s.cyc.mstate ≠ .fault) :
    FaultTaken fc s (retestCause (faultAction fc s)) := by
  have taken := faultAction_taken s fc h
  rw [retestCause_taken taken]
  exact taken

/-- In FAULT with no escape jog it raises its alert, and the fault cause is tested (R152). -/
theorem faultAction_raised {fc : FaultCause} (s : State) (new : FaultCause) (hm : s.cyc.mstate = .fault)
    (hj : s.jog.axis = none) (hf : s.cyc.faultCause = some fc) :
    retestCause (faultAction new s) = { s with
      alert := some (recordAlert new.code new.detail ⟨s.cyc.active, s.path.cursor, .fault⟩ s.alert)
      cyc := { s.cyc with faultCause := some (causeLeft fc s.lines) } } := by
  rw [faultAction_fault s new hm]
  refine (retestCause_fault _ fc (by exact hm) (by exact hj) (by exact hf)).trans ?_
  rw [alertContext, hm]

/-! ### Escape jogs (R153) -/

theorem escapeJog_iff : escapeJog s = true ↔ s.cyc.mstate = .fault ∧ s.jog.axis ≠ none := by
  rw [escapeJog, Bool.and_eq_true, beq_iff_eq, Option.isSome_iff_ne_none]

theorem endEscapeJog_none (h : s.cyc.mstate ≠ .fault ∨ s.jog.axis = none) : endEscapeJog s = s :=
  if_neg fun e => h.elim (fun hm => hm (escapeJog_iff.mp e).1) (escapeJog_iff.mp e).2

theorem PerAxis.set_set {α : Type} (p : PerAxis α) (a : Axis) (v w : α) : (p.set a v).set a w = p.set a w := by
  cases a <;> rfl

/-- An escape jog that ends leaves its axis tracking its encoder and the fault cause tested. -/
theorem endEscapeJog_ends {fc : FaultCause} {b : Axis} (hm : s.cyc.mstate = .fault) (hj : s.jog.axis = some b)
    (hf : s.cyc.faultCause = some fc) :
    endEscapeJog s = { s with
      cyc := { s.cyc with faultCause := some (causeLeft fc s.lines) }
      jog := .reset
      axes := s.axes.set b { s.chan b with command := (s.chan b).encoder, speedSq := 0 } } := by
  have ends : endEscapeJog s = endJog s := if_pos (escapeJog_iff.mpr ⟨hm, by rw [hj]; simp⟩)
  rw [ends, endJog, hj]
  dsimp only
  rw [if_neg (by simp [hm]), if_pos (by simp [hm])]
  refine (retestCause_fault _ fc (by exact hm) (by rfl) (by exact hf)).trans ?_
  simp only [State.onAxis, State.onAxes, State.onJog, PerAxis.get_set_same, PerAxis.set_set]
  rfl

/-- A fault cause that ends an escape jog. -/
theorem faultAction_escaped {fc : FaultCause} {b : Axis} (s : State) (new : FaultCause) (hm : s.cyc.mstate = .fault)
    (hj : s.jog.axis = some b) (hf : s.cyc.faultCause = some fc) :
    retestCause (faultAction new (endEscapeJog s)) = { s with
      alert := some (recordAlert new.code new.detail ⟨s.cyc.active, s.path.cursor, .fault⟩ s.alert)
      cyc := { s.cyc with faultCause := some (causeLeft fc s.lines) }
      jog := .reset
      axes := s.axes.set b { s.chan b with command := (s.chan b).encoder, speedSq := 0 } } := by
  rw [endEscapeJog_ends hm hj hf]
  refine (faultAction_raised (fc := causeLeft fc s.lines) _ new (by exact hm) (by rfl) (by rfl)).trans ?_
  rw [causeLeft_again]

/-! ### ESTOP and the limit inputs (R88, R148) -/

theorem limitAsserted_reported {a : Axis} {d : Side} (h : ¬ (escapeJog s = true ∧ s.cyc.faultCause = some (.limit a d))) :
    limitAsserted a d s = retestCause (faultAction (.limit a d) (if s.jog.axis = some a then endEscapeJog s else s)) :=
  if_neg (by rwa [Bool.and_eq_true, beq_iff_eq])

theorem exec_estopAssert (hl : Live s) (he : s.lines.estop = false) (h : estopAsserted { s with
      lines := { s.lines with estop := true } } = t) : exec .estopAssert s = .next t := by
  refine congrArg Host.Outcome.next ((if_pos (by rw [he]; rfl)).trans (Eq.trans ?_ h))
  exact live_live (s.onLines fun l => { l with estop := true }) estopAsserted hl

theorem exec_limitAssert {a : Axis} {d : Side} (hl : Live s) (he : s.lines.limit a d = false)
    (h : limitAsserted a d (setLimit a d true s) = t) : exec (.limitAssert a d) s = .next t := by
  refine congrArg Host.Outcome.next ((if_pos (by rw [he]; rfl)).trans (Eq.trans ?_ h))
  exact live_live (setLimit a d true s) _ hl

theorem contactMade_other (hz : s.zmotion.isDescent = false) :
    contactMade s = if watchOn s then Machine.faultAction .collision s else s := by
  cases h : s.zmotion with
  | probing z =>
    rw [h] at hz
    cases hz
  | rest | moving _ _ | contactStop | stopMove _ | stopProbe => rw [contactMade, h]

theorem exec_contactAssert (hl : Live s) (he : s.lines.contact = false) (hz : s.zmotion.isDescent = false) :
    exec .contactAssert s = .next (let u := { s with lines := { s.lines with contact := true } }
      if watchOn s then faultAction .collision u else u) := by
  refine congrArg Host.Outcome.next ((if_pos (by rw [he]; rfl)).trans ?_)
  exact (live_live (s.onLines fun l => { l with contact := true }) contactMade hl).trans (contactMade_other hz)

theorem watchOn_iff : watchOn s = true ↔ s.cyc.mstate.inCycle = true ∧ s.zmotion.isDescent = false ∧ s.cyc.suspension = false := by
  simp [watchOn, and_assoc]

theorem ne_fault_of_inCycle (h : s.cyc.mstate.inCycle = true) : s.cyc.mstate ≠ .fault := fun e => by
  rw [e] at h
  cases h

/-! ### The following check (R85) -/

/-- A deviation beyond its limit is the fault action. -/
theorem followingCheck_beyond (s : State) (a : Axis) (hm : s.setups.setup = some m) (h1 : s.cyc.mstate ≠ .fault)
    (h2 : s.cyc.mstate ≠ .unconfigured) (hd : (m.axes.get a).followingLimit < (s.chan a).deviation.natAbs) :
    FaultTaken (.following a) s (followingCheck a s) := by
  have beyond : beyondLimit s a = true := by simp [beyondLimit, hm, h1, h2, hd]
  rw [followingCheck, if_pos beyond]
  exact faultAction_taken s _ h1

theorem tracks_of_outside {a : Axis} (h1 : s.cyc.mstate ≠ .fault) (h2 : s.cyc.mstate ≠ .unconfigured) :
    tracks s a = false := by
  simp [tracks, h1, h2]

/-- The sense of an encoder count (R81). -/
theorem encoderSense (hm : s.setups.setup = some m) (a : Axis) (up : Bool) :
    (if (up != encoderReversed s a) = true then (1 : Int) else -1)
      = if up = ((m.axes.get a).encoderReverse == 0) then 1 else -1 := by
  refine if_congr ?_ rfl rfl
  rw [encoderReversed, hm]
  by_cases h : (m.axes.get a).encoderReverse = 0 <;> cases up <;> simp [h]

/-- One micrometre toward a target, as a pulse leaves the channel. -/
theorem pulse_toward (c : Channel) (q : Int) :
    c.pulse (if c.command < q then c.command + 1 else c.command - 1) = { c with
      command := if c.command < q then c.command + 1 else c.command - 1
      dir := if c.command < q then .pos else .neg } := by
  unfold Channel.pulse
  by_cases hlt : c.command < q
  · simp [hlt]
  · have back : c.command - 1 < c.command := by omega
    have not_on : ¬ c.command < c.command - 1 := by omega
    simp [hlt, back, not_on]

/-- One step toward a target, with some speed. -/
theorem stepToward_away (acc vMax : Nat) (q : Int) (c : Channel) (haway : c.command ≠ q) :
    ∃ v, stepToward acc vMax q c = { c with
      command := if c.command < q then c.command + 1 else c.command - 1
      dir := if c.command < q then .pos else .neg, speedSq := v } := by
  refine ⟨approachSpeed acc vMax (q - c.command).natAbs (carried (sideOf c q) c), (if_neg haway).trans ?_⟩
  have step : c.command + (match sideOf c q with | .pos => 1 | .neg => -1)
      = if c.command < q then c.command + 1 else c.command - 1 := by
    by_cases hlt : c.command < q
    · simp [sideOf, hlt]
    · simp [sideOf, hlt, Int.sub_eq_add_neg]
  have pulsed := pulse_toward c q
  rw [← step] at pulsed
  rw [← step]
  exact congrArg (fun x : Channel => { x with speedSq := approachSpeed acc vMax (q - c.command).natAbs (carried (sideOf c q) c) })
    pulsed

/-- A Z pulse in a cycle, before the following check (R89). -/
theorem stepPulsed_z (hm : s.setups.setup = some m) (hc : s.cyc.mstate.inCycle = true) :
    stepPulsed .z s = followingCheck .z (zPulse m s) := by
  unfold stepPulsed
  cases h : s.cyc.mstate with
  | running | holding | held | resuming => exact congrArg (followingCheck .z) (withSetup_some hm)
  | unconfigured | idle | homing | jogging | fault =>
    rw [h] at hc
    cases hc

/-- A pulse of X or Y in a cycle, before the following check (R82). -/
theorem stepPulsed_path {a : Axis} (ha : a ≠ .z) (hc : s.cyc.mstate.inCycle = true) :
    stepPulsed a s = followingCheck a (pathPulse a s) := by
  unfold stepPulsed
  cases h : s.cyc.mstate with
  | running | holding | held | resuming =>
    cases a with
    | z => exact absurd rfl ha
    | x | y => rfl
  | unconfigured | idle | homing | jogging | fault =>
    rw [h] at hc
    cases hc

/-- The point of the cursor (R72). -/
theorem pathPoint_some {p : Pos} {g : Segment} (hp : s.path.cursor = some p) (hg : s.cursorSegment = some g) :
    s.pathPoint = some (g.pointAt p.dist) := by
  rw [State.pathPoint, hp, hg]

theorem owesPulse_some {a : Axis} {q : Point} (hq : s.pathPoint = some q) :
    owesPulse s a = true ↔ (s.chan a).command ≠ q.along a := by
  rw [owesPulse, hq]
  dsimp only
  rw [bne_iff_ne, ne_comm]

/-- The pulse that the path owes an axis. -/
theorem pathPulse_owed {a : Axis} {q : Point} (hq : s.pathPoint = some q) (h : (s.chan a).command ≠ q.along a) :
    pathPulse a s = s.onAxis a fun c => { c with
      command := if c.command < q.along a then c.command + 1 else c.command - 1
      dir := if c.command < q.along a then .pos else .neg } := by
  rw [pathPulse, if_pos ((owesPulse_some hq).mpr h), stepToPoint, hq]
  exact congrArg (fun c => s.onAxes fun p => p.set a c) (pulse_toward (s.chan a) (q.along a))

/-! ### RELEASE_FAULT (R154) -/

theorem anyLimit_iff {l : Lines} : l.anyLimit = true ↔ l.firstLimit ≠ none := by
  rw [Lines.anyLimit, Lines.firstLimit, ← Option.isSome_iff_ne_none, List.find?_isSome, List.any_eq_true]

/-- A RELEASE_FAULT in FAULT with no escape jog. -/
theorem answerReleaseFault_fault (hm : s.cyc.mstate = .fault) (hj : s.jog.axis = none) :
    answerReleaseFault s = if (s.lines.estop || s.lines.anyLimit) = true then refused .causePresent s
      else accepted (homedItems (releaseFaultNow s)) (releaseFaultNow s) := by
  rw [answerReleaseFault, if_neg (by simp [hm]), if_neg fun e => (escapeJog_iff.mp e).2 hj]

theorem answerReleaseFault_released (hm : s.cyc.mstate = .fault) (hj : s.jog.axis = none) (he : s.lines.estop = false)
    (hf : s.lines.firstLimit = none) :
    answerReleaseFault s = accepted (homedItems (releaseFaultNow s)) (releaseFaultNow s) := by
  have quiet : s.lines.anyLimit = false := Bool.eq_false_iff.mpr fun e => anyLimit_iff.mp e hf
  rw [answerReleaseFault_fault hm hj, he, quiet]
  rfl

theorem dropOutside_chan (hm : s.setups.setup = some m) (a : Axis) :
    (dropOutside s).chan a
      = { s.chan a with homed := (s.chan a).homed && inWindow (m.axes.get a) (s.chan a).command } := by
  rw [dropOutside, withSetup_some hm]
  cases a <;> rfl

/-- Dropping homed flags changes the axes alone. -/
theorem dropOutside_axes (s : State) : dropOutside s = { s with axes := (dropOutside s).axes } := by
  rw [dropOutside, withSetup]
  split <;> rfl

/-- What a release leaves. -/
theorem releaseFaultNow_eq (s : State) :
    ∃ b, releaseFaultNow s = { s with
      cyc := { s.cyc with
        mstate := if s.setups.setup.isSome then .idle else .unconfigured, phase := none, faultCause := none }
      jet := s.jet.shut b, axes := (dropOutside s).axes } := by
  have dropped : dropOutside (s.onCyc fun c => { c with faultCause := none })
      = { s with cyc := { s.cyc with faultCause := none }, axes := (dropOutside s).axes } := by
    rw [dropOutside_axes]
    unfold dropOutside withSetup
    rw [State.onCyc_setups]
    cases s.setups.setup <;> rfl
  rw [releaseFaultNow, dropped, enterState_noPhase]
  exact ⟨_, rfl⟩

theorem exec_estopNegate (hl : Live s) (h : retestCause { s with lines := { s.lines with estop := false } } = t) :
    exec .estopNegate s = .next t :=
  congrArg Host.Outcome.next ((live_live (s.onLines fun l => { l with estop := false }) retestCause hl).trans h)

theorem exec_limitNegate {a : Axis} {d : Side} (hl : Live s) (h : retestCause (setLimit a d false s) = t) :
    exec (.limitNegate a d) s = .next t :=
  congrArg Host.Outcome.next ((live_live (setLimit a d false s) retestCause hl).trans h)

/-- Settles O59. -/
theorem faultRelease : Obligations.FaultRelease := by
  refine ⟨fun tag m s hready hm hj he hf hsetup => ?_, fun tag s hready hm hj he hf hsetup => ?_, fun tag s hready => ⟨fun h => ?_,
    fun hm hj h => ?_⟩, fun s hl => ⟨fun hm => ⟨exec_estopNegate hl (retestCause_other _ hm), fun a d =>
      exec_limitNegate hl (retestCause_other _ hm)⟩, fun fc hm hj hf => ⟨exec_estopNegate hl ?_, fun a d =>
        exec_limitNegate hl ?_⟩⟩⟩
  · obtain ⟨b, released⟩ := releaseFaultNow_eq (frameEnded .pendant s)
    have answered := answerReleaseFault_released (s := frameEnded .pendant s) hm hj he hf
    rw [released, show (frameEnded .pendant s).setups.setup = some m from hsetup] at answered
    refine ⟨_, congrArg Host.Outcome.next (serve_accepted (takes_of_operator rfl hready) answered), rfl, fun a => ?_⟩
    exact dropOutside_chan (s := frameEnded .pendant s) hsetup a
  · obtain ⟨b, released⟩ := releaseFaultNow_eq (frameEnded .pendant s)
    have answered := answerReleaseFault_released (s := frameEnded .pendant s) hm hj he hf
    rw [released, show (frameEnded .pendant s).setups.setup = none from hsetup] at answered
    refine ⟨_, congrArg Host.Outcome.next (serve_accepted (takes_of_operator rfl hready) answered), rfl, rfl, ?_⟩
    change (dropOutside (frameEnded .pendant s)).axes = s.axes
    rw [dropOutside, withSetup, show (frameEnded .pendant s).setups.setup = none from hsetup]
    rfl
  · refine congrArg Host.Outcome.next (serve_refused_by_owner (takes_of_operator rfl hready) ?_)
    by_cases hm : s.cyc.mstate = .fault
    · have jogged : escapeJog (frameEnded .pendant s) = true := escapeJog_iff.mpr ⟨hm, h.resolve_left (· hm)⟩
      rw [answerReleaseFault, if_neg (not_not_intro (by exact hm)), if_pos jogged]
    · exact if_pos hm
  · refine congrArg Host.Outcome.next (serve_refused_by_owner (takes_of_operator rfl hready) ?_)
    refine (answerReleaseFault_fault (s := frameEnded .pendant s) hm hj).trans (if_pos ?_)
    rw [Bool.or_eq_true, anyLimit_iff]
    exact h
  · exact retestCause_fault _ fc hm hj hf
  · exact retestCause_fault _ fc hm hj hf

/-! ### The fault causes -/

/-- Settles O58. -/
theorem faultAction : Obligations.FaultAction := by
  intro s hl estop raised
  refine ⟨fun he => ⟨fun hm => ?_, fun fc hm hf => ⟨fun hj => ?_, fun b hj => ?_⟩⟩, ?_, fun he hc hz hs => ?_,
    fun he hz h => ?_, fun m hm => ⟨?_, ?_, ?_⟩⟩
  · refine ⟨_, exec_estopAssert hl he (congrArg (fun u => retestCause (Machine.faultAction .estop u))
      (endEscapeJog_none (.inl hm))), faultAction_tested _ _ hm⟩
  · refine exec_estopAssert hl he ?_
    refine Eq.trans (congrArg (fun u => retestCause (Machine.faultAction .estop u)) (endEscapeJog_none (.inr hj))) ?_
    exact faultAction_raised _ _ hm hj hf
  · exact exec_estopAssert hl he (faultAction_escaped _ _ hm hj hf)
  · intro a d he limit
    refine ⟨fun hm => ⟨_, exec_limitAssert hl he (limitAsserted_reported fun ⟨e, _⟩ => hm (escapeJog_iff.mp e).1), ?_⟩,
      fun fc hm hf => ⟨fun hj => exec_limitAssert hl he ?_, fun hj hfc => exec_limitAssert hl he ?_,
        fun hj hfc => exec_limitAssert hl he ?_, fun b hj hb hfc => exec_limitAssert hl he ?_⟩⟩
    · rw [endEscapeJog_none (s := setLimit a d true s) (.inl hm), ite_self]
      exact faultAction_tested _ _ hm
    · rw [limitAsserted_reported fun ⟨e, _⟩ => (escapeJog_iff.mp e).2 hj,
        endEscapeJog_none (s := setLimit a d true s) (.inr hj), ite_self]
      exact faultAction_raised _ _ hm hj hf
    · refine if_pos ?_
      rw [Bool.and_eq_true, beq_iff_eq]
      exact ⟨escapeJog_iff.mpr ⟨hm, hj⟩, hf.trans (congrArg some hfc)⟩
    · refine (limitAsserted_reported (s := limit) fun ⟨_, e⟩ => hfc (Option.some.inj (hf.symm.trans e))).trans ?_
      rw [if_pos (by exact hj)]
      exact faultAction_escaped _ _ hm hj hf
    · have jogged : limit.jog.axis = some b := hj
      refine (limitAsserted_reported (s := limit) fun ⟨_, e⟩ => hfc (Option.some.inj (hf.symm.trans e))).trans ?_
      rw [if_neg fun e => hb (Option.some.inj (jogged.symm.trans e)), faultAction_fault limit _ hm]
      refine (retestCause_jogged (by exact jogged)).trans ?_
      rw [alertContext, show limit.cyc.mstate = .fault from hm]
      rfl
  · refine ⟨_, (exec_contactAssert hl he hz).trans (congrArg Host.Outcome.next (if_pos (watchOn_iff.mpr ⟨hc, hz, hs⟩))), ?_⟩
    exact faultAction_taken _ _ (ne_fault_of_inCycle hc)
  · refine (exec_contactAssert hl he hz).trans (congrArg Host.Outcome.next (if_neg fun e => ?_))
    obtain ⟨hc, -, hs⟩ := watchOn_iff.mp e
    obtain h | h := h
    · exact Bool.noConfusion (h.symm.trans hc)
    · exact Bool.noConfusion (h.symm.trans hs)
  · intro a up h1 h2 e hd
    refine ⟨_, congrArg Host.Outcome.next (live_live s (encoderCounted a up) hl), ?_⟩
    have counted : encoderCounted a up s = followingCheck a (s.onAxis a fun x => { x with encoder := e }) := by
      rw [encoderCounted, encoderSense hm]
      exact if_neg (by rw [tracks_of_outside (by exact h1) (by exact h2)]; decide)
    rw [counted]
    refine followingCheck_beyond _ a (m := m) hm h1 h2 ?_
    rw [State.onAxis_chan_same]
    exact hd
  · intro t0 purpose hc hz haway next hd
    obtain ⟨v, stepped⟩ := stepToward_away m.axes.z.acceleration m.axes.z.maxSpeed t0 s.axes.z haway
    have pulsed : zPulse m s = s.onAxis .z fun x =>
        { x with command := next, dir := if s.axes.z.command < t0 then .pos else .neg, speedSq := v } := by
      rw [zPulse, hz]
      exact congrArg (fun c => s.onAxes fun p => p.set .z c) stepped
    refine ⟨_, v, congrArg Host.Outcome.next ((live_live s (stepPulsed .z) hl).trans (stepPulsed_z hm hc)), ?_⟩
    rw [pulsed]
    refine followingCheck_beyond _ .z (m := m) hm (ne_fault_of_inCycle hc) (fun e => ?_) hd
    have outside : s.cyc.mstate = .unconfigured := e
    rw [outside] at hc
    cases hc
  · intro a p g ha hrun hp hg q next haway hd
    have point := pathPoint_some hp hg
    refine ⟨_, congrArg Host.Outcome.next ((live_live s (stepPulsed a) hl).trans (stepPulsed_path ha (by rw [hrun]; rfl))), ?_⟩
    rw [pathPulse_owed point haway]
    refine followingCheck_beyond _ a (m := m) hm (by rw [State.onAxis_cyc, hrun]; decide)
      (by rw [State.onAxis_cyc, hrun]; decide) ?_
    rw [State.onAxis_chan_same]
    exact hd

end Sys2Proof.Proofs
end

section
/-! HOMING (O53, O54). How an axis begins its homing, what the HOME edges do in each step, and how the homing of an axis
ends, fails or is given up. -/

namespace Sys2Proof.Proofs

open Sys2Proof.Machine

variable {s t : State} {m : MachineSetup} {a : Axis}

/-! ### Beginning -/

/-- The homing items as an axis begins (R161). -/
def homingBegun (s : State) (a : Axis) (rest : List Axis) : Homing :=
  { axis := some a, step := some (if s.lines.homes.get a then .clear else .seek), remaining := rest, travel := 0, stop := .none }

theorem beginHoming_eq (a : Axis) (rest : List Axis) (s : State) :
    beginHoming a (s.onHoming fun h => { h with remaining := rest }) = { s with
      homing := homingBegun s a rest, axes := s.axes.set a { s.chan a with homed := false, speedSq := 0 } } := rfl

theorem startHoming_eq (a : Axis) (rest : List Axis) (s : State) :
    ∃ b, startHoming a rest s = { s with
      jet := s.jet.shut b
      cyc := { s.cyc with mstate := .homing, phase := none }
      homing := homingBegun s a rest
      axes := s.axes.set a { s.chan a with homed := false, speedSq := 0 } } := by
  rw [startHoming, beginHoming_eq, enterState_noPhase]
  exact ⟨_, rfl⟩

theorem axisOfCode_number (a : Axis) : axisOfCode (axisNumber a) = some a := by cases a <;> rfl

theorem axisOfCode_high {n : Nat} (h : 3 ≤ n) : axisOfCode n = none := by
  match n, h with
  | n + 3, _ => rfl

/-- HOME in IDLE, by axis or ALL (R160). -/
theorem answerHome_starts {code : Nat} {rest : List Axis} (hm : s.cyc.mstate = .idle)
    (h : (code = axisNumber a ∧ rest = []) ∨ (code = 3 ∧ a = .z ∧ rest = [.x, .y])) :
    answerHome code s = accepted [] (startHoming a rest s) := by
  rw [answerHome, if_neg (by simp [hm])]
  obtain ⟨rfl, rfl⟩ | ⟨rfl, rfl, rfl⟩ := h
  · rw [axisOfCode_number]
  · rfl

/-! ### The HOME edges (R161, R162) -/

/-- The homing axis with its setup and its step. -/
theorem homingNow_some {st : HomingStep} (hm : s.setups.setup = some m) (ha : s.homing.axis = some a)
    (hs : s.homing.step = some st) : homingNow s = some (a, m.axes.get a, st) := by
  rw [homingNow, ha, hs, hm]

theorem homingNow_step {b : Axis} {x : AxisSetup} {st : HomingStep} (h : homingNow s = some (b, x, st)) :
    s.homing.axis = some b ∧ s.homing.step = some st := by
  unfold homingNow at h
  split at h
  · next ha hs _ =>
    simp only [Option.some.injEq, Prod.mk.injEq] at h
    obtain ⟨rfl, -, rfl⟩ := h
    exact ⟨ha, hs⟩
  · cases h

/-- The HOME edge in SEEK redefines the axis: encoder and latch stand at the home position. -/
theorem homeEdge_seek (hm : s.setups.setup = some m) (ha : s.homing.axis = some a) (hs : s.homing.step = some .seek)
    (hstop : s.homing.stop = .none) :
    homeEdge a s = { s with
      axes := s.axes.set a { s.chan a with
        command := (s.chan a).command + ((m.axes.get a).homePosition - (s.chan a).encoder)
        encoder := (m.axes.get a).homePosition, latch := some (m.axes.get a).homePosition }
      homing := { s.homing with step := some .settle } } := by
  have home : (s.chan a).encoder + ((m.axes.get a).homePosition - (s.chan a).encoder) = (m.axes.get a).homePosition := by
    omega
  rw [homeEdge, homingNow_some hm ha hs]
  refine (if_pos (by simp [hstop])).trans ?_
  exact congrArg (fun e => { s with
    axes := s.axes.set a { s.chan a with
      command := (s.chan a).command + ((m.axes.get a).homePosition - (s.chan a).encoder), encoder := e, latch := some e }
    homing := { s.homing with step := some .settle } }) home

theorem homeEdge_other (h : s.homing.axis ≠ some a ∨ s.homing.step ≠ some .seek ∨ s.homing.stop ≠ .none) :
    homeEdge a s = s := by
  unfold homeEdge
  split
  · next b x hn =>
    obtain ⟨hb, hs⟩ := homingNow_step hn
    refine if_neg fun e => ?_
    obtain ⟨hab, hstop⟩ : a = b ∧ s.homing.stop = .none := by simpa using e
    exact h.elim (· (hb.trans (congrArg some hab.symm))) fun h => h.elim (· hs) (· hstop)
  · rfl

theorem homeCleared_clear (hm : s.setups.setup = some m) (ha : s.homing.axis = some a) (hs : s.homing.step = some .clear)
    (hstop : s.homing.stop = .none) : homeCleared a s = { s with homing := { s.homing with stop := .clearing } } := by
  rw [homeCleared, homingNow_some hm ha hs]
  exact if_pos (by simp [hstop])

theorem homeCleared_other (h : s.homing.axis ≠ some a ∨ s.homing.step ≠ some .clear ∨ s.homing.stop ≠ .none) :
    homeCleared a s = s := by
  unfold homeCleared
  split
  · next b x hn =>
    obtain ⟨hb, hs⟩ := homingNow_step hn
    refine if_neg fun e => ?_
    obtain ⟨hab, hstop⟩ : a = b ∧ s.homing.stop = .none := by simpa using e
    exact h.elim (· (hb.trans (congrArg some hab.symm))) fun h => h.elim (· hs) (· hstop)
  · rfl

/-- A home input that asserts: the edge acts where the level changes. -/
theorem exec_homeInputAssert (hl : Live s) (a : Axis) :
    exec (.homeInputAssert a) s
      = .next (if s.lines.homes.get a then setHome a true s else homeEdge a (setHome a true s)) := by
  refine congrArg Host.Outcome.next ?_
  cases s.lines.homes.get a
  · exact live_live (setHome a true s) _ hl
  · rfl

theorem exec_homeInputNegate (hl : Live s) (a : Axis) :
    exec (.homeInputNegate a) s
      = .next (if s.lines.homes.get a then homeCleared a (setHome a false s) else setHome a false s) := by
  refine congrArg Host.Outcome.next ?_
  cases s.lines.homes.get a
  · rfl
  · exact live_live (setHome a false s) _ hl

/-- Settles O53. -/
theorem homingBegins : Obligations.HomingBegins := by
  refine ⟨fun tag code a rest s htakes hm h => ?_, fun tag code s htakes => ⟨fun hm => ?_, fun hm hcode => ?_⟩, ?_⟩
  · obtain ⟨b, started⟩ := startHoming_eq a rest (frameEnded .pendant s)
    have answered := answerHome_starts (s := frameEnded .pendant s) hm h
    rw [started] at answered
    exact ⟨_, congrArg Host.Outcome.next (serve_accepted htakes answered), rfl⟩
  · exact congrArg Host.Outcome.next (serve_refused_by_owner htakes (if_pos hm))
  · refine congrArg Host.Outcome.next (serve_refusedAt htakes ?_)
    rw [answerHome, if_neg (not_not_intro (by exact hm)), axisOfCode_high (by omega)]
    exact if_neg (by omega)
  · intro a s hl asserted negated
    refine ⟨fun m hm ha hs hstop hin => ?_, fun h => ?_, fun m hm ha hs hstop hin => ?_, fun h => ?_,
      fun m hm ha hs hstop => ?_⟩
    · rw [exec_homeInputAssert hl, hin]
      exact congrArg Host.Outcome.next (homeEdge_seek (by exact hm) (by exact ha) (by exact hs) (by exact hstop))
    · rw [exec_homeInputAssert hl]
      cases hin : s.lines.homes.get a with
      | true => rfl
      | false =>
        refine congrArg Host.Outcome.next (homeEdge_other (s := setHome a true s) (h.imp_right fun h => h.imp_right fun h => ?_))
        exact h.resolve_right (by rw [hin]; decide)
    · rw [exec_homeInputNegate hl, hin]
      exact congrArg Host.Outcome.next (homeCleared_clear (by exact hm) (by exact ha) (by exact hs) (by exact hstop))
    · rw [exec_homeInputNegate hl]
      cases hin : s.lines.homes.get a with
      | false => rfl
      | true =>
        refine congrArg Host.Outcome.next (homeCleared_other (s := setHome a false s) (h.imp_right fun h => h.imp_right fun h => ?_))
        exact h.resolve_right (by rw [hin]; decide)
    · refine congrArg Host.Outcome.next ((live_live s _ hl).trans ?_)
      rw [clearRested, homingNow_some hm ha hs]
      exact if_pos hstop

/-! ### Ending (R163 to R165) -/

theorem leaveHoming_eq (s : State) :
    ∃ b, leaveHoming s = { s with
      jet := s.jet.shut b, cyc := { s.cyc with mstate := .idle, phase := none }, homing := .reset } := by
  rw [leaveHoming, enterState_noPhase]
  exact ⟨_, rfl⟩

/-- The last axis of the list is homed. -/
theorem endHoming_last (a : Axis) (hr : s.homing.remaining = []) :
    ∃ b, endHoming a s = { s with
      jet := s.jet.shut b, cyc := { s.cyc with mstate := .idle, phase := none }, homing := .reset
      axes := s.axes.set a { s.chan a with homed := true, speedSq := 0 } } := by
  obtain ⟨b, left⟩ := leaveHoming_eq (s.onAxis a fun c => { c with homed := true, speedSq := 0 })
  refine ⟨b, Eq.trans ?_ left⟩
  rw [endHoming, State.onAxis_homing, hr]

/-- The next axis of the list begins. -/
theorem endHoming_next (a : Axis) {b : Axis} {rest : List Axis} (hr : s.homing.remaining = b :: rest) (hb : b ≠ a) :
    endHoming a s = { s with
      homing := homingBegun s b rest
      axes := (s.axes.set a { s.chan a with homed := true, speedSq := 0 }).set b
        { s.chan b with homed := false, speedSq := 0 } } := by
  have other : (s.onAxis a fun c => { c with homed := true, speedSq := 0 }).chan b = s.chan b :=
    State.onAxis_chan_other s a b _ hb
  rw [endHoming, State.onAxis_homing, hr]
  dsimp only
  rw [beginHoming_eq, other]
  rfl

theorem edgeBeyond_inside {x : AxisSetup} {p : Int} (h1 : x.softMin ≤ p) (h2 : p ≤ x.softMax) : edgeBeyond x p = none := by
  rw [edgeBeyond, if_neg (not_lt.mpr h1), if_neg (not_lt.mpr h2)]

theorem edgeBeyond_outside {x : AxisSetup} {p : Int} (h : p < x.softMin ∨ x.softMax < p) : ∃ e, edgeBeyond x p = some e := by
  by_cases h1 : p < x.softMin
  · exact ⟨_, if_pos h1⟩
  · exact ⟨_, (if_neg h1).trans (if_pos (h.resolve_left h1))⟩

/-- The edge of RETURN (entry 39). -/
theorem edgeBeyond_some {x : AxisSetup} {p edge : Int}
    (h : (p < x.softMin ∧ edge = x.softMin) ∨ (x.softMin ≤ p ∧ x.softMax < p ∧ edge = x.softMax)) :
    edgeBeyond x p = some edge := by
  obtain ⟨h1, rfl⟩ | ⟨h1, h2, rfl⟩ := h
  · exact if_pos h1
  · exact (if_neg (not_lt.mpr h1)).trans (if_pos h2)

theorem settleRested_settle (hm : s.setups.setup = some m) (ha : s.homing.axis = some a)
    (hs : s.homing.step = some .settle) (hstop : s.homing.stop = .none) :
    settleRested s = match edgeBeyond (m.axes.get a) (s.command a) with
      | none => endHoming a s
      | some _ => (s.onAxis a fun c => { c with speedSq := 0 }).onHoming fun h => { h with step := some .ret } := by
  rw [settleRested, homingNow_some hm ha hs]
  exact if_neg (not_not_intro hstop)

/-- At the edge the axis comes to rest with the pulses and counts this brings (entry 14). -/
theorem jump_edge {c : Channel} {edge : Int} (h : c.command ≠ edge) : c.jump edge = { c with
    command := edge, encoder := c.encoder + (edge - c.command), dir := if c.command < edge then .pos else .neg } := by
  rw [Channel.jump]
  by_cases hlt : c.command < edge
  · rw [if_pos hlt, if_pos hlt]
  · rw [if_neg hlt, if_neg hlt, if_pos (by omega)]

/-- A seek travel limit in CLEAR or SEEK (R164): the rest of the travel is made, and the homing is given up. -/
theorem seekFailed_eq {st : HomingStep} (hm : s.setups.setup = some m) (ha : s.homing.axis = some a)
    (hs : s.homing.step = some st) (hst : st = .clear ∨ st = .seek) (hstop : s.homing.stop ≠ .givenUp) :
    ∃ c : Channel, (c.command - (s.chan a).command).natAbs = seekLimit (m.axes.get a) - s.homing.travel
      ∧ c.homed = (s.chan a).homed ∧ c.latch = (s.chan a).latch
      ∧ seekFailed s = { s with
          homing := { s.homing with
            travel := max s.homing.travel (seekLimit (m.axes.get a)), remaining := [], stop := .givenUp }
          alert := some (recordAlert .homeFailed { axis := some a } ⟨s.cyc.active, s.path.cursor, s.cyc.mstate⟩ s.alert)
          axes := s.axes.set a c } := by
  have going : ¬ (s.homing.stop = .givenUp || (st ≠ .clear && st ≠ .seek) : Bool) = true := by
    obtain rfl | rfl := hst <;> simp [hstop]
  unfold seekFailed
  rw [homingNow_some hm ha hs]
  dsimp only
  rw [if_neg going]
  refine ⟨_, ?_, ?_, ?_, rfl⟩
  · cases seekSide (m.axes.get a) st <;> simp only [Channel.jump, State.chan] <;> omega
  · rfl
  · rfl

/-- Settles O54. -/
theorem homingEnds : Obligations.HomingEnds := by
  intro m a s hl hm ha x p ended
  refine ⟨fun hs hstop h1 h2 => ?_, fun hs hstop h => ?_, fun edge hs hstop h hr => ?_, fun hs hstop htravel => ?_,
    fun hmst port tag hready => ?_, fun hmst hk hcursor => ?_, fun hstop => ?_⟩
  · have settled : settleRested s = endHoming a s := by
      rw [settleRested_settle hm ha hs hstop, edgeBeyond_inside (by exact h1) (by exact h2)]
    refine ⟨fun hr => ?_, fun b rest hr hb => ?_⟩
    · obtain ⟨b, left⟩ := endHoming_last a hr
      exact ⟨_, congrArg Host.Outcome.next ((live_live s _ hl).trans (settled.trans left)), rfl⟩
    · exact congrArg Host.Outcome.next ((live_live s _ hl).trans (settled.trans (endHoming_next a hr hb)))
  · obtain ⟨edge, beyond⟩ := edgeBeyond_outside h
    refine congrArg Host.Outcome.next ((live_live s _ hl).trans ((settleRested_settle hm ha hs hstop).trans ?_))
    rw [show edgeBeyond (m.axes.get a) (s.command a) = some edge from beyond]
    rfl
  · have beyond : edgeBeyond (m.axes.get a) (s.command a) = some edge := edgeBeyond_some h
    have away : (s.chan a).command ≠ edge := fun e => by
      have e : p = edge := e
      omega
    have returned : returnRested s = endHoming a (axisReaches a edge s) := by
      rw [returnRested, homingNow_some hm ha hs]
      dsimp only
      rw [if_neg (not_not_intro hstop), beyond]
      rfl
    obtain ⟨b, left⟩ := endHoming_last (s := axisReaches a edge s) a hr
    refine ⟨_, congrArg Host.Outcome.next ((live_live s _ hl).trans (returned.trans left)), ?_⟩
    rw [axisReaches, State.onAxis_chan_same, jump_edge away]
    simp only [State.onAxis, State.onAxes, PerAxis.set_set]
    rfl
  · obtain ⟨st, hst, hs'⟩ : ∃ st, (st = HomingStep.clear ∨ st = .seek) ∧ s.homing.step = some st :=
      hs.elim (fun h => ⟨_, .inl rfl, h⟩) fun h => ⟨_, .inr rfl, h⟩
    obtain ⟨c, hc, hhomed, hlatch, failed⟩ := seekFailed_eq hm ha hs' hst hstop
    rw [max_eq_right htravel] at failed
    have chan : (({ s with axes := s.axes.set a c } : State).chan a) = c := PerAxis.get_set_same _ _ _
    refine ⟨_, congrArg Host.Outcome.next ((live_live s _ hl).trans failed), ?_, ?_, ?_, ?_⟩
    · exact congrArg (fun c => ({ s with
          homing := { s.homing with travel := seekLimit (m.axes.get a), remaining := [], stop := .givenUp }
          alert := some (recordAlert .homeFailed { axis := some a } ⟨s.cyc.active, s.path.cursor, s.cyc.mstate⟩ s.alert)
          axes := s.axes.set a c } : State)) chan.symm
    · exact (congrArg (fun c : Channel => (c.command - p).natAbs) chan).trans hc
    · exact (congrArg (fun c : Channel => c.homed) chan).trans hhomed
    · exact (congrArg (fun c : Channel => c.latch) chan).trans hlatch
  · refine congrArg Host.Outcome.next (serve_accepted (takes_of_read (.inr rfl) hready) (congrArg (accepted []) ?_))
    rw [abortEffect, show (frameEnded port s).cyc.mstate = .homing from hmst]
    rfl
  · rw [exec_keyModeChange hl (k := .production) rfl hk, formOverride_still (.inl (by exact hcursor))]
    refine congrArg Host.Outcome.next ?_
    simp only [keyActs, hmst]
    rfl
  · obtain ⟨b, left⟩ := leaveHoming_eq (s.onAxis a fun c => { c with speedSq := 0 })
    refine ⟨_, congrArg Host.Outcome.next ((live_live s _ hl).trans (Eq.trans ?_ left)), rfl⟩
    rw [homingStopped, ha]
    exact if_pos hstop

end Sys2Proof.Proofs
end

section
/-! JOGGING (O56, O57). How a jog ends, what JOG and JOG_STEP start by machine state, their refusals, and what keeps and
stops a jog. -/

namespace Sys2Proof.Proofs

open Sys2Proof.Machine

variable {s t : State} {m : MachineSetup} {a : Axis}

theorem mstate_ne {m n : MachineState} (h : s.cyc.mstate = m) (hn : m ≠ n) : s.cyc.mstate ≠ n := h ▸ hn

/-! ### The end of a jog (R170) -/

theorem endJog_jogging (ha : s.jog.axis = some a) (hm : s.cyc.mstate = .jogging) :
    ∃ b, endJog s = { s with
      jet := s.jet.shut b, cyc := { s.cyc with mstate := .idle, phase := none }, jog := .reset
      axes := s.axes.set a { s.chan a with speedSq := 0 } } := by
  rw [endJog, ha]
  dsimp only
  rw [if_pos (by simp [hm]), enterState_noPhase]
  exact ⟨_, rfl⟩

theorem PerAxis.set_get {α : Type} (p : PerAxis α) (a : Axis) : p.set a (p.get a) = p := by cases a <;> rfl

/-- An axis at rest stays as it is. -/
theorem set_rest (h : (s.chan a).speedSq = 0) : s.axes.set a { s.chan a with speedSq := 0 } = s.axes := by
  have rest : ({ s.chan a with speedSq := 0 } : Channel) = s.chan a := congrArg (fun v => { s.chan a with speedSq := v }) h.symm
  rw [rest]
  exact PerAxis.set_get _ _

/-! ### The window and the speed of a jog -/

theorem jogWindow_homed (hm : s.setups.setup = some m) (hf : s.cyc.mstate ≠ .fault) (hh : (s.chan a).homed = true) :
    jogWindow s a = some (m.axes.get a) := by
  rw [jogWindow, if_pos (by simp [hf, hh]), hm]
  rfl

theorem jogWindow_none (h : s.cyc.mstate = .fault ∨ (s.chan a).homed = false) : jogWindow s a = none :=
  if_neg (by simpa [imp_iff_not_or, or_comm] using h)

theorem jogKeepOf_some (hm : s.setups.setup = some m) : jogKeepOf s = m.jogKeep := by rw [jogKeepOf, hm]

theorem jogSlowOf_some (hm : s.setups.setup = some m) : jogSlowOf s a = (m.axes.get a).jogSlow := by rw [jogSlowOf, hm]

theorem jogSpeedOf_some (hm : s.setups.setup = some m) (hf : s.cyc.mstate ≠ .fault) (fast : Bool) :
    jogSpeedOf s a fast
      = if fast = true ∧ (s.chan a).homed = true then (m.axes.get a).jogFast else (m.axes.get a).jogSlow := by
  rw [jogSpeedOf, hm]
  dsimp only
  rw [jogSlowOf_some hm]
  exact if_congr (by simp [hf]) rfl rfl

theorem jogSpeedOf_fault (hm : s.setups.setup = some m) (hf : s.cyc.mstate = .fault) (fast : Bool) :
    jogSpeedOf s a fast = (m.axes.get a).jogSlow := by
  rw [jogSpeedOf, hm]
  dsimp only
  rw [if_neg (by simp [hf]), jogSlowOf_some hm]

/-! ### Continuous jogs (R166 to R168) -/

/-- The jog items of a continuous jog. -/
def continuousJog (a : Axis) (d : Side) (v : Nat) (m : MachineSetup) : Jog :=
  { axis := some a, kind := some .continuous, direction := some d, speed := some v, target := none
    keep := .running m.jogKeep, stopping := false, slowing := false }

/-- A jog that does not stand at the soft limit ahead. -/
theorem startJog_runs {d : Side} {v : Nat} (hm : s.setups.setup = some m)
    (h : s.cyc.mstate = .fault
      ∨ ¬ ((s.chan a).homed = true ∧ (s.chan a).speedSq = 0 ∧ (s.chan a).command = limitAhead (m.axes.get a) d)) :
    startJog a d v s = { s with jog := continuousJog a d v m } := by
  have jogs : (s.onJog fun _ => { axis := some a, kind := some .continuous, direction := some d, speed := some v
                                  target := none, keep := .running (jogKeepOf s), stopping := false, slowing := false })
      = { s with jog := continuousJog a d v m } := by
    rw [jogKeepOf_some hm]
    rfl
  rw [startJog, jogs]
  by_cases hw : s.cyc.mstate = .fault ∨ (s.chan a).homed = false
  · rw [jogWindow_none (s := { s with jog := continuousJog a d v m }) hw]
  · obtain ⟨hf, hh⟩ := not_or.mp hw
    have hh : (s.chan a).homed = true := by simpa using hh
    rw [jogWindow_homed (s := { s with jog := continuousJog a d v m }) hm hf hh]
    refine if_neg fun e => h.resolve_left hf ?_
    have e : (s.chan a).speedSq = 0 ∧ (s.chan a).command = limitAhead (m.axes.get a) d := by
      rwa [Bool.and_eq_true, decide_eq_true_eq, decide_eq_true_eq] at e
    exact ⟨hh, e⟩

/-- A homed axis at rest at the soft limit ahead makes no motion. -/
theorem startJog_atLimit {d : Side} {v : Nat} (hm : s.setups.setup = some m) (hj : s.cyc.mstate = .jogging)
    (hh : (s.chan a).homed = true) (hs : (s.chan a).speedSq = 0) (hc : (s.chan a).command = limitAhead (m.axes.get a) d) :
    ∃ b, startJog a d v s = { s with
      jet := s.jet.shut b, cyc := { s.cyc with mstate := .idle, phase := none }, jog := .reset } := by
  have jogs : (s.onJog fun _ => { axis := some a, kind := some .continuous, direction := some d, speed := some v
                                  target := none, keep := .running (jogKeepOf s), stopping := false, slowing := false })
      = { s with jog := continuousJog a d v m } := by
    rw [jogKeepOf_some hm]
    rfl
  obtain ⟨b, ended⟩ := endJog_jogging (s := { s with jog := continuousJog a d v m }) (a := a) rfl hj
  rw [set_rest (s := { s with jog := continuousJog a d v m }) hs] at ended
  refine ⟨b, Eq.trans ?_ ended⟩
  rw [startJog, jogs, jogWindow_homed (s := { s with jog := continuousJog a d v m }) hm (by simp [hj]) hh]
  refine if_pos ?_
  rw [Bool.and_eq_true, decide_eq_true_eq, decide_eq_true_eq]
  exact ⟨hs, hc⟩

theorem sideOfCode_number (d : Side) : sideOfCode (sideNumber d) = some d := by cases d <;> rfl

/-- JOG with codes that name an axis, a direction and a speed. -/
theorem answerJog_named (a : Axis) (d : Side) (fast : Bool) (s : State) :
    answerJog (axisNumber a) (sideNumber d) (if fast then 1 else 0) s = match jogRefusal s a d with
      | some st => refused st s
      | none => accepted [] (startJog a d (jogSpeedOf s a fast) (enterJogging s)) := by
  rw [answerJog, axisOfCode_number, sideOfCode_number]
  cases fast <;> rfl

theorem jogRefusal_idle (hm : s.cyc.mstate = .idle) (d : Side) : jogRefusal s a d = none := by rw [jogRefusal, hm]

theorem jogRefusal_jogging (hm : s.cyc.mstate = .jogging) (ha : s.jog.axis = some a) (d : Side) : jogRefusal s a d = none := by
  rw [jogRefusal, hm]
  exact if_pos ha

/-- An escape jog away from the limit switch of the fault cause (R153). -/
theorem jogRefusal_escape {d e : Side} (hm : s.cyc.mstate = .fault) (hf : s.cyc.faultCause = some (.limit a e)) (hd : e ≠ d)
    (he : s.lines.estop = false) : jogRefusal s a d = none := by
  rw [jogRefusal, hm]
  dsimp only
  rw [escapeRefusal, hf]
  dsimp only
  rw [if_neg (by simp [hd.symm]), if_neg (by simp [he])]

/-- A jog that the machine state rules out (R153, R166). -/
theorem jogRefusal_wrongState (d : Side)
    (h : (s.cyc.mstate = .jogging ∧ s.jog.axis ≠ some a) ∨ s.cyc.mstate = .homing ∨ s.cyc.mstate = .unconfigured
      ∨ s.cyc.mstate.inCycle = true ∨ (s.cyc.mstate = .fault ∧ ∀ b e, s.cyc.faultCause ≠ some (.limit b e))) :
    jogRefusal s a d = some .wrongState := by
  obtain ⟨hm, ha⟩ | hm | hm | hm | ⟨hm, hf⟩ := h
  · rw [jogRefusal, hm]
    exact if_neg ha
  · rw [jogRefusal, hm]
  · rw [jogRefusal, hm]
  · cases h : s.cyc.mstate with
    | running | holding | held | resuming => rw [jogRefusal, h]
    | unconfigured | idle | homing | jogging | fault =>
      rw [h] at hm
      cases hm
  · rw [jogRefusal, hm]
    dsimp only
    unfold escapeRefusal
    split
    · next b e hl => exact absurd hl (hf b e)
    · rfl

/-- A jog in IDLE enters JOGGING. -/
theorem enterJogging_idle (hm : s.cyc.mstate = .idle) :
    ∃ b, enterJogging s = { s with jet := s.jet.shut b, cyc := { s.cyc with mstate := .jogging, phase := none } } :=
  ⟨_, (if_pos hm).trans (enterState_noPhase _ _)⟩

theorem enterJogging_other (hm : s.cyc.mstate ≠ .idle) : enterJogging s = s := if_neg hm

/-! ### JOG_STEP (R169) -/

theorem stepTarget_unclamped {dist : Int} (h : s.cyc.mstate = .fault ∨ (s.chan a).homed = false) :
    stepTarget s a dist = ((s.chan a).command + dist, false) := by
  rw [stepTarget, jogWindow_none h]
  rfl

/-- The target of a JOG_STEP and whether it is limited. -/
theorem stepTarget_eq {dist : Int} (hm : s.setups.setup = some m) (hf : s.cyc.mstate ≠ .fault) :
    let goal := (s.chan a).command + dist
    let clamped := if goal < (m.axes.get a).softMin then (m.axes.get a).softMin
      else if (m.axes.get a).softMax < goal then (m.axes.get a).softMax else goal
    let target := if (s.chan a).homed then clamped else goal
    stepTarget s a dist = (target, decide (target ≠ goal)) := by
  intro goal clamped target
  cases hh : (s.chan a).homed with
  | false =>
    have free : target = goal := if_neg (by simp [hh])
    rw [stepTarget_unclamped (.inr hh), free]
    simp only [ne_eq, not_true, decide_false]
    rfl
  | true =>
    have bound : target = clamped := if_pos hh
    rw [stepTarget, jogWindow_homed hm hf hh, bound]
    change (if goal < (m.axes.get a).softMin then _ else if (m.axes.get a).softMax < goal then _ else (goal, false)) = _
    by_cases h1 : goal < (m.axes.get a).softMin
    · have low : clamped = (m.axes.get a).softMin := if_pos h1
      rw [if_pos h1, low, decide_eq_true (ne_of_gt h1)]
    · by_cases h2 : (m.axes.get a).softMax < goal
      · have high : clamped = (m.axes.get a).softMax := (if_neg h1).trans (if_pos h2)
        rw [if_neg h1, if_pos h2, high, decide_eq_true (ne_of_lt h2)]
      · have inside : clamped = goal := (if_neg h1).trans (if_neg h2)
        rw [if_neg h1, if_neg h2, inside]
        simp only [ne_eq, not_true, decide_false]

/-- The jog items of a JOG_STEP. -/
def stepJog (a : Axis) (dist target : Int) (v : Nat) (slowing : Bool) : Jog :=
  { axis := some a, kind := some .step, direction := some (if dist < 0 then .neg else .pos), speed := some v
    target := some target, keep := .stopped, stopping := false, slowing := slowing }

/-- A JOG_STEP that has a way to go, or an axis that moves. -/
theorem startStep_runs {dist target : Int} (hm : s.setups.setup = some m) (ht : (stepTarget s a dist).1 = target)
    (h : (s.chan a).speedSq ≠ 0 ∨ (s.chan a).command ≠ target) :
    startStep a dist s = { s with
      jog := stepJog a dist target (m.axes.get a).jogSlow ((s.chan a).speedSq != 0) } := by
  rw [startStep, jogSlowOf_some hm, ht]
  refine if_neg fun e => ?_
  have e : (s.chan a).speedSq = 0 ∧ (s.chan a).command = target := by
    rwa [Bool.and_eq_true, decide_eq_true_eq, decide_eq_true_eq] at e
  exact h.elim (· e.1) (· e.2)

/-- A target where the axis stands at rest is reached at once. -/
theorem startStep_there {dist target : Int} (hj : s.cyc.mstate = .jogging) (ht : (stepTarget s a dist).1 = target)
    (hs : (s.chan a).speedSq = 0) (hc : (s.chan a).command = target) :
    ∃ b, startStep a dist s = { s with
      jet := s.jet.shut b, cyc := { s.cyc with mstate := .idle, phase := none }, jog := .reset } := by
  obtain ⟨b, ended⟩ := endJog_jogging (a := a)
    (s := { s with jog := stepJog a dist target (jogSlowOf s a) ((s.chan a).speedSq != 0) }) rfl hj
  rw [set_rest (by exact hs)] at ended
  refine ⟨b, Eq.trans ?_ ended⟩
  rw [startStep, ht]
  refine if_pos ?_
  rw [Bool.and_eq_true, decide_eq_true_eq, decide_eq_true_eq]
  exact ⟨hs, hc⟩

theorem distanceFits_iff {d : Int} : distanceFits d = true ↔ d ≠ 0 ∧ d.natAbs ≤ 100000 := by
  simp [distanceFits]

/-- JOG_STEP with a code that names an axis and a distance within its values. -/
theorem answerJogStep_named {dist : Int} (a : Axis) (h0 : dist ≠ 0) (h1 : dist.natAbs ≤ 100000) (s : State) :
    answerJogStep (axisNumber a) dist s = match jogRefusal s a (if dist < 0 then .neg else .pos) with
      | some st => refused st s
      | none => accepted (flag (stepTarget s a dist).2) (startStep a dist (enterJogging s)) := by
  rw [answerJogStep, axisOfCode_number, distanceFits_iff.mpr ⟨h0, h1⟩] <;> rfl

/-- A step of a jog that first decelerates (R169). -/
theorem jogPulse_slowing {target : Int} (hm : s.setups.setup = some m) (ht : s.jog.target = some target)
    (hslow : s.jog.slowing = true) (hstop : s.jog.stopping = false) (hv : 2 * (m.axes.get a).acceleration ≤ (s.chan a).speedSq)
    (hw : ∀ x, jogWindow s a = some x → inWindow x ((s.chan a).command + (match (s.chan a).dir with | .pos => 1 | .neg => -1)) = true) :
    jogPulse a s = s.onAxis a fun c => c.stepped c.dir (c.speedSq - 2 * (m.axes.get a).acceleration) := by
  have acc : accelOf s a = (m.axes.get a).acceleration := by rw [accelOf, hm]
  have stays : ({ s.jog with slowing := true } : Jog) = s.jog := congrArg (fun b => { s.jog with slowing := b }) hslow.symm
  have kept (c' : Channel) (hc : c'.command = (s.chan a).command + (match (s.chan a).dir with | .pos => 1 | .neg => -1)) :
      keepIn (jogWindow s a) (s.chan a) c' = c' := by
    cases hx : jogWindow s a with
    | none => rfl
    | some x => exact if_neg (by rw [hc, hw x hx]; simp)
  rw [jogPulse, hstop, ht, hslow, acc]
  dsimp only
  rw [if_neg (by decide), stepToTarget_slowing _ _ _ _ hv, kept _ rfl]
  rw [fallen, Nat.mul_one]
  exact congrArg (fun j => ({ s.onAxis a (fun c => c.stepped c.dir (c.speedSq - 2 * (m.axes.get a).acceleration)) with
    jog := j } : State)) stays

/-- A step on in the axis's direction. -/
theorem stepped_dir (c : Channel) (v : Nat) :
    c.stepped c.dir v = { c with
      command := (match c.dir with | .neg => c.command - 1 | .pos => c.command + 1), speedSq := v } := by
  cases hd : c.dir with
  | neg =>
    have back : c.command + -1 < c.command := by omega
    simp only [Channel.stepped, Channel.pulse, if_neg (not_lt.mpr back.le), if_pos back, ← hd, Int.sub_eq_add_neg]
  | pos => simp only [Channel.stepped, Channel.pulse, if_pos (Int.lt_succ c.command), ← hd]

/-- That step of the jog, with the following check passed (R82, R85). -/
theorem stepPulsed_slowing {target : Int} (hm : s.setups.setup = some m) (hj : s.cyc.mstate = .jogging)
    (ha : s.jog.axis = some a) (ht : s.jog.target = some target) (hslow : s.jog.slowing = true)
    (hstop : s.jog.stopping = false) (hv : 2 * (m.axes.get a).acceleration ≤ (s.chan a).speedSq) {next : Int}
    (hnext : (match (s.chan a).dir with | .neg => (s.chan a).command - 1 | .pos => (s.chan a).command + 1) = next)
    (hin : (s.chan a).homed = true → (m.axes.get a).softMin ≤ next ∧ next ≤ (m.axes.get a).softMax)
    (hdev : (next - (s.chan a).encoder).natAbs ≤ (m.axes.get a).followingLimit) :
    stepPulsed a s = { s with axes := s.axes.set a { s.chan a with
      command := next, speedSq := (s.chan a).speedSq - 2 * (m.axes.get a).acceleration } } := by
  have pulsed : stepPulsed a s = followingCheck a (jogPulse a s) := by
    unfold stepPulsed
    rw [hj]
    exact if_pos ha
  have inside (x : AxisSetup) (hx : jogWindow s a = some x) :
      inWindow x ((s.chan a).command + (match (s.chan a).dir with | .pos => 1 | .neg => -1)) = true := by
    have same : (s.chan a).command + (match (s.chan a).dir with | .pos => 1 | .neg => -1) = next := by
      rw [← hnext]
      cases (s.chan a).dir <;> rfl
    cases hh : (s.chan a).homed with
    | false =>
      rw [jogWindow_none (.inr hh)] at hx
      cases hx
    | true =>
      rw [jogWindow_homed hm (mstate_ne hj (by decide)) hh] at hx
      obtain rfl := Option.some.inj hx
      rw [same, inWindow, within, Bool.and_eq_true, decide_eq_true_eq, decide_eq_true_eq]
      exact hin hh
  have stepped : jogPulse a s = { s with axes := s.axes.set a { s.chan a with
      command := next, speedSq := (s.chan a).speedSq - 2 * (m.axes.get a).acceleration } } := by
    rw [← hnext]
    exact (jogPulse_slowing hm ht hslow hstop hv inside).trans
      (congrArg (fun c => s.onAxes fun p => p.set a c) (stepped_dir (s.chan a) _))
  rw [pulsed, stepped]
  refine followingCheck_within _ a m hm ?_
  exact (congrArg (fun c : Channel => c.deviation.natAbs ≤ _) (PerAxis.get_set_same s.axes a _)).mpr hdev

/-! ### What the requests do -/

theorem exec_jog_taken {tag : Byte} {d : Side} {fast : Bool}
    (htakes : Takes s .pendant (.jog (axisNumber a) (sideNumber d) (if fast then 1 else 0)))
    (hr : jogRefusal (frameEnded .pendant s) a d = none)
    (ht : startJog a d (jogSpeedOf (frameEnded .pendant s) a fast) (enterJogging (frameEnded .pendant s)) = t) :
    exec (.jog .pendant tag (axisNumber a) (sideNumber d) (if fast then 1 else 0)) s
      = .next (sendReply .pendant tag .ok [] t) := by
  refine congrArg Host.Outcome.next (serve_accepted htakes ((answerJog_named a d fast (frameEnded .pendant s)).trans ?_))
  rw [hr]
  exact congrArg (accepted []) ht

theorem exec_jogStep_taken {tag : Byte} {dist : Int} {limited : Bool} (htakes : Takes s .pendant (.jogStep (axisNumber a) dist))
    (h0 : dist ≠ 0) (h1 : dist.natAbs ≤ 100000) (hr : ∀ d, jogRefusal (frameEnded .pendant s) a d = none)
    (hlim : (stepTarget (frameEnded .pendant s) a dist).2 = limited)
    (ht : startStep a dist (enterJogging (frameEnded .pendant s)) = t) :
    exec (.jogStep .pendant tag (axisNumber a) dist) s = .next (sendReply .pendant tag .ok (flag limited) t) := by
  refine congrArg Host.Outcome.next (serve_accepted htakes ((answerJogStep_named a h0 h1 (frameEnded .pendant s)).trans ?_))
  rw [hr, hlim]
  exact congrArg (accepted (flag limited)) ht

theorem answerJog_range {n e v : Nat} (h : 3 ≤ n ∨ 2 ≤ e ∨ 2 ≤ v) : answerJog n e v s = refusedAt .range 0 s := by
  unfold answerJog
  split
  · next a d hn he hv =>
    have hv : v ≤ 1 := by simpa using hv
    obtain h | h | h := h
    · rw [axisOfCode_high h] at hn
      cases hn
    · match e, h with
      | e + 2, _ => cases he
    · omega
  · rfl

theorem answerJogStep_range {n : Nat} {dist : Int} (h : 3 ≤ n ∨ dist = 0 ∨ 100000 < dist.natAbs) :
    answerJogStep n dist s = refusedAt .range 0 s := by
  unfold answerJogStep
  split
  · next a hn hd =>
    obtain ⟨h0, h1⟩ := distanceFits_iff.mp hd
    obtain h | h | h := h
    · rw [axisOfCode_high h] at hn
      cases hn
    · exact absurd h h0
    · omega
  · rfl

/-- Settles O56. -/
theorem jogsStart : Obligations.JogsStart := by
  intro tag a d fast m s speed code x c limit started speedOf
  refine ⟨fun htakes hm => ⟨fun hidle hway => ?_, fun hidle hh hs hc => ?_, fun hj ha hway => ?_, fun e hf hcause he hestop => ?_⟩,
    ?_, ?_, ?_, fun n e v dist htakes => ⟨fun h => ?_, fun h => ?_⟩, fun dist htakes h0 h1 h => ⟨?_, ?_⟩⟩
  · obtain ⟨b, entered⟩ := enterJogging_idle (s := frameEnded .pendant s) hidle
    refine ⟨{ frameEnded .pendant s with
      jet := s.jet.shut b, cyc := { s.cyc with mstate := .jogging, phase := none }, jog := started speedOf },
      exec_jog_taken htakes (jogRefusal_idle hidle d) ?_, rfl⟩
    rw [jogSpeedOf_some (s := frameEnded .pendant s) hm (mstate_ne hidle (by decide)), entered]
    exact startJog_runs (m := m) hm (.inr hway)
  · obtain ⟨b, entered⟩ := enterJogging_idle (s := frameEnded .pendant s) hidle
    obtain ⟨b', ended⟩ := startJog_atLimit (a := a) (d := d) (v := jogSpeedOf (frameEnded .pendant s) a fast)
      (s := { frameEnded .pendant s with jet := s.jet.shut b, cyc := { s.cyc with mstate := .jogging, phase := none } })
      hm rfl hh hs hc
    exact ⟨_, exec_jog_taken htakes (jogRefusal_idle hidle d) ((congrArg _ entered).trans ended), rfl⟩
  · refine exec_jog_taken htakes (jogRefusal_jogging hj ha d) ?_
    rw [jogSpeedOf_some (s := frameEnded .pendant s) hm (mstate_ne hj (by decide)),
      enterJogging_other (s := frameEnded .pendant s) (mstate_ne hj (by decide))]
    exact startJog_runs (m := m) hm (.inr hway)
  · refine exec_jog_taken htakes (jogRefusal_escape hf hcause he hestop) ?_
    rw [jogSpeedOf_fault (s := frameEnded .pendant s) hm hf,
      enterJogging_other (s := frameEnded .pendant s) (mstate_ne hf (by decide))]
    exact startJog_runs (m := m) hm (.inl hf)
  · intro dist htakes hm h0 h1 hidle goal clamped target
    obtain ⟨b, entered⟩ := enterJogging_idle (s := frameEnded .pendant s) hidle
    have limited := congrArg Prod.snd
      (stepTarget_eq (s := frameEnded .pendant s) (a := a) (dist := dist) hm (mstate_ne hidle (by decide)))
    have there := congrArg Prod.fst (stepTarget_eq (a := a) (dist := dist)
      (s := { frameEnded .pendant s with jet := s.jet.shut b, cyc := { s.cyc with mstate := .jogging, phase := none } }) hm
      nofun)
    refine ⟨fun h => ⟨_, exec_jogStep_taken htakes h0 h1 (fun d => jogRefusal_idle hidle d) limited
      ((congrArg _ entered).trans (startStep_runs (m := m) hm there h)), rfl⟩, fun hs hc => ?_⟩
    obtain ⟨b', ended⟩ := startStep_there (a := a) (dist := dist)
      (s := { frameEnded .pendant s with jet := s.jet.shut b, cyc := { s.cyc with mstate := .jogging, phase := none } })
      rfl there hs hc
    exact ⟨_, exec_jogStep_taken htakes h0 h1 (fun d => jogRefusal_idle hidle d) limited ((congrArg _ entered).trans ended), rfl⟩
  · intro dist htakes hm h0 h1 hj ha hs goal clamped target
    have target_eq := stepTarget_eq (s := frameEnded .pendant s) (a := a) (dist := dist) hm (mstate_ne hj (by decide))
    refine exec_jogStep_taken htakes h0 h1 (fun d => jogRefusal_jogging hj ha d) (congrArg Prod.snd target_eq) ?_
    rw [enterJogging_other (s := frameEnded .pendant s) (mstate_ne hj (by decide))]
    refine (startStep_runs (s := frameEnded .pendant s) (m := m) hm (congrArg Prod.fst target_eq) (.inl hs)).trans ?_
    have moving : ((s.chan a).speedSq != 0) = true := bne_iff_ne.mpr hs
    exact congrArg (fun b => { frameEnded .pendant s with jog := stepJog a dist target (m.axes.get a).jogSlow b }) moving
  · intro target hl hm hj ha ht hslow hstop hv next hin hdev
    refine congrArg Host.Outcome.next ((live_live s (stepPulsed a) hl).trans ?_)
    exact stepPulsed_slowing hm hj ha ht hslow hstop hv (next := next) rfl hin hdev
  · exact congrArg Host.Outcome.next (serve_refusedAt htakes (answerJog_range h))
  · exact congrArg Host.Outcome.next (serve_refusedAt (r := .jogStep n dist) htakes (answerJogStep_range h))
  · refine congrArg Host.Outcome.next (serve_refused_by_owner htakes ((answerJog_named a d fast (frameEnded .pendant s)).trans ?_))
    rw [jogRefusal_wrongState d (by exact h)]
  · refine congrArg Host.Outcome.next (serve_refused_by_owner (r := .jogStep code dist) htakes
      ((answerJogStep_named a h0 h1 (frameEnded .pendant s)).trans ?_))
    rw [jogRefusal_wrongState _ (by exact h)]

/-! ### Keeping, stopping and ending a jog (R168 to R170) -/

/-- A jog that is at rest at its named point ends there. -/
theorem jogRested_at {rest : Int} (hm : s.setups.setup = some m) (ha : s.jog.axis = some a)
    (h : (s.jog.stopping = true ∧ rest = (s.chan a).command)
      ∨ (s.jog.stopping = false ∧ s.jog.target = some rest)
      ∨ (s.jog.stopping = false ∧ s.jog.target = none ∧ s.cyc.mstate ≠ .fault ∧ (s.chan a).homed = true
          ∧ ∃ d, s.jog.direction = some d
            ∧ rest = match d with | .neg => (m.axes.get a).softMin | .pos => (m.axes.get a).softMax)) :
    jogRested s = endJog s ∧ rest = (s.chan a).command ∨ jogRested s = endJog (axisReaches a rest s) := by
  unfold jogRested
  rw [ha]
  dsimp only
  obtain ⟨hs, hr⟩ | ⟨hs, ht⟩ | ⟨hs, ht, hf, hh, d, hd, rfl⟩ := h
  · exact .inl ⟨if_pos hs, hr⟩
  · rw [if_neg (by simp [hs]), ht]
    exact .inr rfl
  · rw [if_neg (by simp [hs]), ht, hd, jogWindow_homed hm hf hh]
    cases d <;> exact .inr rfl

/-- The axis of a jog that ends at a point, with the pulses and counts this brings. -/
theorem jump_there (c : Channel) : c.jump c.command = c := by
  unfold Channel.jump
  simp

theorem endJog_fault {fc : FaultCause} (ha : s.jog.axis = some a) (hm : s.cyc.mstate = .fault)
    (hf : s.cyc.faultCause = some fc) :
    endJog s = { s with
      cyc := { s.cyc with faultCause := some (causeLeft fc s.lines) }
      jog := .reset
      axes := s.axes.set a { s.chan a with command := (s.chan a).encoder, speedSq := 0 } } := by
  have escapes : endEscapeJog s = endJog s := if_pos (escapeJog_iff.mpr ⟨hm, by rw [ha]; simp⟩)
  exact escapes.symm.trans (endEscapeJog_ends hm ha hf)

/-- Where the axis already stands at its point, reaching it changes nothing but its speed. -/
theorem endJog_reached (ha : s.jog.axis = some a) : endJog (axisReaches a (s.chan a).command s) = endJog s := by
  have reached : axisReaches a (s.chan a).command s = s.onAxis a fun c => { c with speedSq := 0 } :=
    congrArg (fun c : Channel => s.onAxes fun p => p.set a { c with speedSq := 0 }) (jump_there (s.chan a))
  rw [reached, endJog, endJog, State.onAxis_jog, ha]
  dsimp only
  rw [show (State.onAxis a (fun c => { c with speedSq := 0 }) (State.onAxis a (fun c => { c with speedSq := 0 }) s))
    = State.onAxis a (fun c => { c with speedSq := 0 }) s by
      simp only [State.onAxis, State.onAxes, PerAxis.set_set, PerAxis.get_set_same]]

/-- Settles O57. -/
theorem jogsEnd : Obligations.JogsEnd := by
  intro m s hm
  refine ⟨fun tag htakes => ⟨fun hk hs => ?_, fun h => ?_⟩, fun tag hready => ⟨fun ha => ?_, fun ha => ?_⟩,
    fun hl => ⟨fun ms hk => ?_, fun hk => ?_, fun hj ha hk hc => ?_, ?_⟩⟩
  · refine congrArg Host.Outcome.next (serve_accepted htakes ?_)
    refine (if_pos (by simp [hk, hs])).trans ?_
    rw [jogKeepOf_some (s := frameEnded .pendant s) hm]
    rfl
  · refine congrArg Host.Outcome.next (serve_refused_by_owner htakes (if_neg fun e => ?_))
    rw [Bool.and_eq_true, decide_eq_true_eq, Bool.not_eq_true'] at e
    exact h.elim (· e.1) fun hs => Bool.noConfusion (hs.symm.trans e.2)
  · refine congrArg Host.Outcome.next (serve_accepted (takes_of_operator rfl hready) (congrArg (accepted []) ?_))
    exact if_pos (Option.isSome_iff_ne_none.mpr ha)
  · refine congrArg Host.Outcome.next (serve_accepted (takes_of_operator rfl hready) (congrArg (accepted []) ?_))
    exact if_neg (by rw [frameEnded_jog, ha]; decide)
  · refine congrArg Host.Outcome.next ((live_live s _ hl).trans ?_)
    rw [keepExpired, hk]
    rfl
  · refine congrArg Host.Outcome.next ((live_live s _ hl).trans ?_)
    rw [keepExpired, hk]
  · rw [exec_keyModeChange hl (k := .production) rfl hk, formOverride_still (.inl (by exact hc))]
    refine congrArg Host.Outcome.next ?_
    simp only [keyActs, hj]
    exact if_pos (Option.isSome_iff_ne_none.mpr ha)
  · intro a rest ha h moved
    have ends : jogRested s = endJog (axisReaches a rest s) := by
      obtain ⟨hend, rfl⟩ | hend := jogRested_at hm ha h
      · exact hend.trans (endJog_reached ha).symm
      · exact hend
    have chan : (axisReaches a rest s).chan a = moved := State.onAxis_chan_same s a _
    refine ⟨fun hj => ?_, fun fc hf hfc => ?_⟩
    · obtain ⟨b, left⟩ := endJog_jogging (s := axisReaches a rest s) ha hj
      refine ⟨_, congrArg Host.Outcome.next ((live_live s _ hl).trans (ends.trans left)), ?_⟩
      rw [chan]
      simp only [axisReaches, State.onAxis, State.onAxes, PerAxis.set_set]
      rfl
    · have left := endJog_fault (s := axisReaches a rest s) ha hf hfc
      refine congrArg Host.Outcome.next ((live_live s _ hl).trans (ends.trans (left.trans ?_)))
      rw [chan]
      simp only [axisReaches, State.onAxis, State.onAxes, PerAxis.set_set]
      rfl

end Sys2Proof.Proofs
end

section
/-! Rest (O49). What the coming to rest of the path and of Z brings in HOLDING and with an ABORT pending. -/

namespace Sys2Proof.Proofs

open Sys2Proof.Machine

variable {s t : State} {m : MachineSetup} {p : Pos} {g : Segment}

/-! ### A micrometre of the cursor (R73, R79) -/

/-- A speed that hold deceleration spends within the micrometre carries the cursor no further. -/
theorem cursorStep_spent (hd : s.path.motion = .decel)
    (h : ∀ m, s.setups.setup = some m → s.path.speedSq < 2 * m.accelHold) : cursorStep s = s := by
  unfold cursorStep
  split
  case h_1 m p g hm hp hg =>
    rw [if_pos]
    rw [pathMoves, hd]
    simpa using h m hm
  case h_2 => rfl

theorem cursorStep_forward (hm : s.setups.setup = some m) (hp : s.path.cursor = some p) (hg : s.cursorSegment = some g)
    (hmoves : pathMoves m s.path g = true) (hdir : s.path.dir = .forward) (hd : p.dist < g.len) (hshort : shortOfClose s p = true) :
    cursorStep s = { s with
      path := { s.path with cursor := some ⟨p.seq, p.dist + 1⟩, speedSq := forwardSpeed s m g p.dist 1 } } := by
  rw [cursorStep, hm, hp, hg]
  dsimp only
  rw [if_neg (by simp [hmoves])]
  split
  · rw [if_pos (by simp [hd, hshort])]
    rfl
  · simp_all

/-- A cursor that moves within its segment keeps the segment under it. -/
theorem cursorSegment_within (hp : s.path.cursor = some p) (hs : t.prog.segments = s.prog.segments) {d : Nat}
    (ht : t.path.cursor = some ⟨p.seq, d⟩) : t.cursorSegment = s.cursorSegment := by
  rw [State.cursorSegment, State.cursorSegment, hp, ht, Option.bind_some, Option.bind_some, State.segment?, State.segment?, hs]

theorem shortOfClose_other (h : rejoining s = false) : shortOfClose s p = true := by
  rw [shortOfClose, h]
  rfl

/-- In hold deceleration the speed falls at least at A_hold. -/
theorem forwardSpeed_decel_le (hd : s.path.motion = .decel) (d n : Nat) :
    forwardSpeed s m g d n ≤ fallen m.accelHold n s.path.speedSq := by
  rw [forwardSpeed, hd]
  cases g.cls <;> exact Nat.min_le_left _ _

/-- A point at which both axes stand owes no pulse. -/
theorem owesPulse_there {q : Point} (a : Axis) (hq : s.pathPoint = some q) (h : (s.chan a).command = q.along a) :
    owesPulse s a = false :=
  Bool.eq_false_iff.mpr fun owed => (owesPulse_some hq).mp owed h

/-! ### The two reports -/

theorem exec_pathAtRest (hl : Live s) (hd : s.path.motion = .decel) :
    exec .pathAtRest s
      = .next (settleRest { cursorFree 4 s with path := { (cursorFree 4 s).path with speedSq := 0, motion := .rest } }) := by
  refine congrArg Host.Outcome.next ?_
  rw [live_live s _ hl, pathRested, if_pos hd]
  rfl

theorem exec_pathAtRest_spent (hl : Live s) (hd : s.path.motion = .decel)
    (h : ∀ m, s.setups.setup = some m → s.path.speedSq < 2 * m.accelHold) :
    exec .pathAtRest s = .next (settleRest { s with path := { s.path with speedSq := 0, motion := .rest } }) := by
  rw [exec_pathAtRest hl hd, cursorFree_spent s 4 (cursorStep_spent hd h)]

/-- The last micrometre that the speed still covers belongs to the stop (entry 15). -/
theorem cursorFree_last (hm : s.setups.setup = some m) (hp : s.path.cursor = some p) (hg : s.cursorSegment = some g)
    (hd : s.path.motion = .decel) (hdir : s.path.dir = .forward) (hlen : p.dist < g.len) (hr : rejoining s = false)
    (hlow : 2 * m.accelHold ≤ s.path.speedSq) (hhigh : s.path.speedSq < 4 * m.accelHold)
    (hx : (g.pointAt (p.dist + 1)).x = s.axes.x.command) (hy : (g.pointAt (p.dist + 1)).y = s.axes.y.command) :
    cursorFree 4 s = { s with
      path := { s.path with cursor := some ⟨p.seq, p.dist + 1⟩, speedSq := forwardSpeed s m g p.dist 1 } } := by
  have one := cursorStep_forward hm hp hg (by simpa [pathMoves, hd] using hlow) hdir hlen (shortOfClose_other hr)
  have point := pathPoint_some (s := cursorStep s) (p := ⟨p.seq, p.dist + 1⟩) (by rw [one])
    ((cursorSegment_within (t := cursorStep s) (d := p.dist + 1) hp (by rw [one]) (by rw [one])).trans hg)
  have slow : forwardSpeed s m g p.dist 1 < 2 * m.accelHold := by
    have := forwardSpeed_decel_le (m := m) (g := g) hd p.dist 1
    rw [fallen] at this
    omega
  have two : cursorStep (cursorStep s) = cursorStep s := by
    refine cursorStep_spent (by rw [one]; exact hd) fun n hn => ?_
    rw [one] at hn ⊢
    cases hm.symm.trans hn
    exact slow
  have none_owed : (owesPulse (cursorStep s) .x || owesPulse (cursorStep s) .y) = false := by
    rw [owesPulse_there .x point (by rw [State.chan, cursorStep_axes]; exact hx.symm),
      owesPulse_there .y point (by rw [State.chan, cursorStep_axes]; exact hy.symm), Bool.or_false]
  rw [cursorFree]
  dsimp only
  rw [none_owed, if_neg Bool.false_ne_true, cursorFree_spent _ 3 two, one]

theorem atRest_of (hp : s.path.motion = .rest) (hz : s.zmotion = .rest) : atRest s = true := by
  rw [atRest, pathStill_rest s hp, hz]
  rfl

theorem atRest_zMoves (hz : s.zmotion ≠ .rest) : atRest s = false := by
  rw [atRest, beq_false_of_ne hz, Bool.and_false]

theorem contour_abandoned {why : AbandonReason} {c : Fin Config.contours} {r : Contour} (hc : s.cyc.active = some c)
    (hr : s.contour? c = some r) :
    (programAbandoned why s).contours[c] = some { r with status := .abandoned, abandonReason := some why } := by
  rw [programAbandoned, hc]
  dsimp only
  rw [hr, Fin.getElem_fin, Vector.getElem_set_self]
  rfl

theorem Jet.shut_atRest (b : Bool) (j : Jet) : (j.shut b).AtRest := by simp [Jet.AtRest, Jet.shut]

/-- Settles O49. -/
theorem restReports : Obligations.RestReports := by
  unfold Obligations.RestReports
  intro s hl spent
  refine ⟨fun hd hspent hz ha hm h hh => ?_, fun m p g hd hm hp hg _ hdir hlen hr hlow hhigh hx hy hz => ?_,
    fun hd hspent hz => ?_, fun c r hd hspent hz ha hc hr => ?_, fun z hz hp ha hm h hh => ?_⟩
  · refine ⟨_, (exec_pathAtRest_spent hl hd hspent).trans
      (congrArg _ (settleRest_holding _ (atRest_of rfl hz) (by exact ha) (by exact hm))), ?_⟩
    simp only [hh, Option.map_some]
    rfl
  · rw [exec_pathAtRest hl hd, cursorFree_last hm hp hg hd hdir hlen hr hlow hhigh hx hy]
    exact congrArg _ (settleRest_moving _ (atRest_zMoves (by exact hz)))
  · exact (exec_pathAtRest_spent hl hd hspent).trans (congrArg _ (settleRest_moving _ (atRest_zMoves (by exact hz))))
  · obtain ⟨b, gone⟩ := abandonByAbort_eq (s := { s with path := { s.path with speedSq := 0, motion := .rest } }) hc
    have rested := (settleRest_abort { s with path := { s.path with speedSq := 0, motion := .rest } }
      (atRest_of rfl (by exact hz)) (by exact ha)).trans gone
    refine ⟨_, (exec_pathAtRest_spent hl hd hspent).trans (congrArg _ rested),
      rfl, rfl, rfl, rfl, rfl, rfl, ?_, ?_, ?_⟩
    · rfl
    · exact contour_abandoned hc hr
    · exact Jet.shut_atRest _ _
  · have rests : exec .zAtRest s = .next (settleRest (zRests s)) := by
      refine congrArg Host.Outcome.next ?_
      rw [live_live s _ hl, zRested]
      rcases hz with hz | hz <;> rw [hz]
    refine ⟨_, rests.trans (congrArg _ (settleRest_holding _ (atRest_of (by exact hp) rfl) (by exact ha) (by exact hm))), ?_⟩
    have held : (zRests s).cyc.hold = some h := hh
    rw [held]
    rfl

end Sys2Proof.Proofs
end

section
/-! THE Z MOVES OF THE CYCLE (O50, O51). The jet opened for a pierce, the completion of a pierce, and what each completed Z
move, the probe's contact and its rise begin. -/

namespace Sys2Proof.Proofs

open Sys2Proof.Machine

variable {s t : State} {m : MachineSetup} {c : Fin Config.contours} {r : Contour} {f : ProcessSet} {z : Int}

/-! ### Opening the jet for a pierce (R94, R97, R100, R109) -/

/-- A limit of 0 is never reached (R109). -/
theorem wearMark_unlimited (hm : s.setups.setup = some m) {limit : MachineSetup → Nat} (h : limit m = 0) (v : Nat) :
    wearMark s limit v = false := by
  rw [wearMark, hm]
  dsimp only
  rw [h]
  rfl

theorem countPierce_unlimited (hm : s.setups.setup = some m) (hn : m.pierceCountLimit = 0) (ht : m.jetTimeLimit = 0) :
    countPierce s = { s with jet := { s.jet with
      pierceCount := min 4294967295 (s.jet.pierceCount + 1), wearJetTime := false, wearPierceCount := false } } := by
  rw [countPierce, testWear_eq]
  dsimp only
  rw [wearMark_unlimited (m := m) (by exact hm) ht,
    wearMark_unlimited (m := m) (by exact hm) hn, Bool.false_and, Bool.false_and, Bool.or_false,
    Bool.or_false]
  rfl

/-- A band state that is OUT stays so at a demand that leaves PFB outside the band (R96). -/
theorem bandAfter_out (hm : s.setups.setup = some m) {d : Nat} (hb : s.jet.bandIn = false)
    (hd : m.pressureBand < absDiff s.lines.pfb d) : bandAfter d s = false := by
  rw [bandAfter, bandOf_setup hm, hb, decide_eq_false (Nat.not_le.mpr hd), ite_self]

/-- OPEN LOW and OPEN CUT of a closed jet at a demand that leaves PFB outside the band. -/
theorem openJet_settles {js : JetState} {onBand : State → State} (hm : s.setups.setup = some m)
    (hv : valvesAllowed s.cyc = true) (hf : s.activeSet = some f) (hclosed : s.jet.state = .closed)
    (hpump : s.lines.pumprdy = true) (h1 : js ≠ .closed) (h2 : js ≠ .ramp) (hb : s.jet.bandIn = false)
    (hd : m.pressureBand < absDiff s.lines.pfb (stateDemand f js)) (hn : m.pierceCountLimit = 0) (ht : m.jetTimeLimit = 0)
    (hdelay : 0 < m.abrasiveDelay) :
    openJet js true onBand s = { s with jet := { s.jet with
      state := js, demand := stateDemand f js, settle := .running m.settleLimit, dip := .stopped, dipWatch := false
      abrasiveDelay := .running m.abrasiveDelay, pierceCount := min 4294967295 (s.jet.pierceCount + 1)
      wearJetTime := false, wearPierceCount := false } } := by
  have shut : s.jet.isOpen = false := by simp [Jet.isOpen, hclosed]
  have entered := enterJet_settles (onBand := onBand) (s := { s with jet := { s.jet with
      pierceCount := min 4294967295 (s.jet.pierceCount + 1), wearJetTime := false, wearPierceCount := false } }) (f := f)
    hm hv hf h1 h2 (bandAfter_out (by exact hm) hb hd)
  have isOpen : (js != .closed) = true := bne_iff_ne.mpr h1
  rw [openJet, hm]
  dsimp only
  rw [if_neg (by simp [shut, hv]), if_neg (by simp [hpump]), if_pos rfl, countPierce_unlimited hm hn ht, entered,
    if_pos (by exact isOpen), startAbrasive, if_neg (by omega)]
  rw [← hb]
  rfl

/-! ### The Z moves -/

theorem advancing_iff : advancing s = true ↔ s.cyc.mstate = .running ∧ s.cyc.abortPending = false := by
  simp [advancing]

/-- A Z move completed in RUNNING with the collision suspension off. -/
theorem exec_zMoveComplete (hl : Live s) (hrun : s.cyc.mstate = .running) (ha : s.cyc.abortPending = false)
    (hs : s.cyc.suspension = false) {purpose : ZPurpose} (hz : s.zmotion = .moving z purpose) :
    exec .zMoveComplete s = .next (zPurposeDone purpose (zReaches z s)) := by
  refine congrArg Host.Outcome.next ?_
  rw [live_live s _ hl, zMoveCompleted, hz]
  dsimp only
  rw [zArrived_plain _ _ (by exact hs), if_pos (advancing_iff.mpr ⟨by exact hrun, by exact ha⟩)]

/-- The first TRAVERSE becomes ACTIVE with its start point, at a length other than 0 (R22, R24, R114). -/
theorem approachArrived_first {g : Segment} (hc : s.cyc.active = some c) (hg : (s.segmentsOf c).head? = some g)
    (hcls : g.cls = .traverse) (hstate : g.state = .planned) (hstart : g.start = none)
    (hlen : (g.finish.sub (headPoint s)).norm ≠ 0) (hgo : advancing s = true) :
    approachArrived s = { s with
      path := { s.path with cursor := some ⟨g.seq, 0⟩, dir := .forward, speedSq := 0, motion := .run }
      prog := { s.prog with segments := s.prog.segments.map fun x =>
        if x.seq = g.seq then { x.startAt (headPoint s) with state := .active } else x } } := by
  have next : nextTraverse s = some g := by
    rw [nextTraverse, State.activeSegments, hc]
    dsimp only
    rw [hg]
    exact if_pos hcls
  have len : (g.startAt (headPoint s)).len = (g.finish.sub (headPoint s)).norm := by
    rw [Segment.startAt, hstart]
    rfl
  have marked : (s.prog.segments.map fun x => if x.seq == g.seq then x.startAt (headPoint s) else x).map
        (fun x => if x.seq == g.seq then { x with state := .active } else x)
      = s.prog.segments.map fun x =>
          if x.seq = g.seq then { x.startAt (headPoint s) with state := .active } else x := by
    rw [List.map_map]
    refine List.map_congr_left fun x _ => ?_
    by_cases e : x.seq = g.seq <;> simp [e, startAt_seq]
  rw [approachArrived, next]
  dsimp only
  rw [if_neg (by simp [hstate])]
  refine (if_neg (fun e => hlen (len.symm.trans e))).trans ((if_pos (by exact hgo)).trans ?_)
  rw [← marked]
  rfl

theorem startDescent_clear (hm : s.setups.setup = some m) (hcontact : s.lines.contact = false) :
    startDescent s = { s with
      axes := { s.axes with z := { s.axes.z with speedSq := 0 } }, zmotion := .probing (probeTarget m s.axes.z.command) } := by
  rw [startDescent, withSetup_some hm, if_neg (by simp [hcontact])]
  rfl

theorem startDescent_struck (hm : s.setups.setup = some m) (hcontact : s.lines.contact = true) :
    startDescent s = Machine.faultAction .collision s := by
  rw [startDescent, withSetup_some hm, if_pos hcontact]

/-- The contour's end with nothing left to cut (R11, R120). -/
theorem contourDone_last (hc : s.cyc.active = some c) (hr : s.contour? c = some r) (hrun : s.prog.runList = [])
    (hl : s.loading = none) :
    ∃ b, contourDone s = { s with
      jet := s.jet.shut b
      cyc := { s.cyc with mstate := .idle, phase := none, hold := none, deferredHold := false, abortPending := false
                          suspension := false, active := none }
      prog := { s.prog with
        contours := s.prog.contours.set c (some { r with status := .done })
        segments := s.prog.segments.filter fun g => g.contour != c }
      path := { s.path with cursor := none, speedSq := 0, motion := .rest } } := by
  have dropped : dropActive (fun r => { r with status := .done }) s = _ := dropActive_some s _ c hc
  rw [hr, Option.map_some] at dropped
  have none_loading : (dropActive (fun r => { r with status := .done }) s).loading = none := by
    refine loading_none_iff.mpr fun d => ?_
    rw [dropped, State.statusOf, State.contour?]
    by_cases e : d = c
    · subst e
      simp
    · rw [Fin.getElem_fin, Vector.getElem_set_ne _ _ (fun h => e (Fin.ext h.symm))]
      exact loading_none_iff.mp hl d
  rw [contourDone, continuation, continuationWith_ends (.inr ⟨by rw [dropped]; exact hrun, none_loading⟩), endCycle_eq, dropped]
  exact ⟨_, rfl⟩

/-- Step 1 of a method done, the jet opens in step 2 (R104 to R106). -/
theorem openStep_settles {js : JetState} {onBand : State → State} (hm : s.setups.setup = some m)
    (hrun : s.cyc.mstate = .running) (hp : s.cyc.phase = some .pierce) (hf : s.activeSet = some f)
    (hclosed : s.jet.state = .closed) (hpump : s.lines.pumprdy = true) (h1 : js ≠ .closed) (h2 : js ≠ .ramp)
    (hb : s.jet.bandIn = false) (hd : m.pressureBand < absDiff s.lines.pfb (stateDemand f js)) (hn : m.pierceCountLimit = 0)
    (ht : m.jetTimeLimit = 0) (hdelay : 0 < m.abrasiveDelay) :
    openJet js true onBand (setStep (some 2) s) = { s with jet := { s.jet with
      state := js, demand := stateDemand f js, settle := .running m.settleLimit, dip := .stopped, dipWatch := false
      pierceStep := some 2, abrasiveDelay := .running m.abrasiveDelay
      pierceCount := min 4294967295 (s.jet.pierceCount + 1), wearJetTime := false, wearPierceCount := false } } :=
  openJet_settles (s := setStep (some 2) s) hm (valvesAllowed_iff _ |>.mpr ⟨.inl hrun, .inl hp⟩) hf hclosed hpump h1 h2 hb
    hd hn ht hdelay

theorem activeContour_some (hc : s.cyc.active = some c) (hr : s.contour? c = some r) : s.activeContour = some r := by
  rw [State.activeContour, hc]
  exact hr

/-- Settles O50. -/
theorem zMovesComplete : Obligations.ZMovesComplete := by
  unfold Obligations.ZMovesComplete
  intro m c r z s hl hm hrun ha hs hc hr moved struck
  have arrives {purpose : ZPurpose} (hz : s.zmotion = .moving z purpose) := exec_zMoveComplete hl hrun ha hs hz
  have method {p : PierceMethod} (h : r.method = p) : activeMethod struck = some p :=
    (activeMethod_some (s := struck) (activeContour_some (by exact hc) (by exact hr))).trans (congrArg some h)
  refine ⟨?_, fun f js pd hz hp hstep hf hj hpump hb hmethod hd hn ht hdelay => (arrives hz).trans (congrArg _ ?_),
    ?_, fun hz => ⟨fun hcontact => (arrives hz).trans (congrArg _ ?_), fun hcontact => ?_⟩,
    fun hz hp hqueue hload hstatus => ?_⟩
  · intro g hz hg hcls hstate hstart d hlen
    refine (arrives hz).trans (congrArg _ ?_)
    exact approachArrived_first (s := struck) hc hg hcls hstate hstart hlen (advancing_iff.mpr ⟨hrun, ha⟩)
  · have opens {js : JetState} {onBand : State → State} (h1 : js ≠ .closed) (h2 : js ≠ .ramp)
        (hd : m.pressureBand < absDiff s.lines.pfb (stateDemand f js)) :=
      openStep_settles (s := struck) (js := js) (onBand := onBand) hm hrun hp hf hj hpump h1 h2 hb hd hn ht hdelay
    have moves : zPurposeDone .pierceStep (zReaches z s) = pierceMoved struck := rfl
    have first : struck.jet.pierceStep = some 1 := hstep
    rw [moves, pierceMoved, first]
    obtain ⟨h | h, rfl, rfl⟩ | ⟨h, rfl, rfl⟩ := hmethod
    · rw [method h]
      exact opens (by decide) (by decide) hd
    · rw [method h]
      exact opens (by decide) (by decide) hd
    · rw [method h]
      exact opens (by decide) (by decide) hd
  · intro f hz hp hmethod hf hj hd done
    have moves : exec .zMoveComplete s = .next (pierceComplete struck) := by
      refine (arrives hz).trans (congrArg _ ?_)
      have unfolded : zPurposeDone .pierceStep (zReaches z s) = pierceMoved struck := rfl
      have step : struck.jet.pierceStep = s.jet.pierceStep := rfl
      rw [unfolded, pierceMoved, step]
      obtain ⟨h, h'⟩ | ⟨h, h'⟩ := hmethod
      · rw [method h, h']
        rfl
      · rw [method h, h']
        rfl
    have completed := pierceComplete_open (s := struck) hc hr hf hrun hj hd
    refine ⟨fun hdefer => moves.trans (congrArg _ (completed.trans (if_neg (by simpa [struck] using hdefer)))),
      fun hdefer => ⟨_, moves.trans (congrArg _ (completed.trans (if_pos hdefer))), takeHold_taken done _ _ (by exact ha)⟩⟩
  · exact startDescent_clear (s := struck) hm hcontact
  · exact ⟨_, (arrives hz).trans (congrArg _ (startDescent_struck (s := struck) hm hcontact)),
      faultAction_taken struck _ (mstate_ne hrun (by decide))⟩
  · obtain ⟨b, done⟩ := contourDone_last (s := struck) hc hr hqueue hload
    refine ⟨_, (arrives hz).trans (congrArg _ done), ?_, fun x hx => ?_, rfl, rfl, rfl, rfl⟩
    · simp [State.contour?]
    · simpa using (List.mem_filter.mp hx).2

end Sys2Proof.Proofs
end

section
/-! THE PROBE'S CONTACT (O51). The contact and its rise, and what the rise begins: phase PIERCE and step 1 of the contour's
method. -/

namespace Sys2Proof.Proofs

open Sys2Proof.Machine

variable {s t : State} {m : MachineSetup} {c : Fin Config.contours} {r : Contour} {f : ProcessSet} {g : Segment} {z : Int}

/-! ### The rise (R115, R122) -/

/-- A rise completed with CONTACT negated ends the collision suspension. -/
theorem zArrived_clear (go : State → State) (hcontact : s.lines.contact = false) :
    zArrived go s = go { s with cyc := { s.cyc with suspension := false } } := by
  by_cases h : s.cyc.suspension = true
  · rw [zArrived, if_pos h]
    exact if_neg (by simpa using hcontact)
  · have same : ({ s.cyc with suspension := false } : CycleController) = s.cyc :=
      congrArg (fun b => { s.cyc with suspension := b }) (Bool.eq_false_iff.mpr h).symm
    rw [zArrived, if_neg h, same]

theorem zArrived_struck (go : State → State) (hs : s.cyc.suspension = true) (hcontact : s.lines.contact = true) :
    zArrived go s = Machine.faultAction .collision { s with cyc := { s.cyc with suspension := false } } := by
  rw [zArrived, if_pos hs]
  exact if_pos hcontact

theorem exec_zMoveComplete_arrived (hl : Live s) {purpose : ZPurpose} (hz : s.zmotion = .moving z purpose) :
    exec .zMoveComplete s
      = .next (zArrived (fun s => if advancing s then zPurposeDone purpose s else settleRest s) (zReaches z s)) := by
  refine congrArg Host.Outcome.next ?_
  rw [live_live s _ hl, zMoveCompleted, hz]

/-! ### Phase PIERCE (R24, R103, R118) -/

/-- A cursor jump takes X and Y to the point it names (entry 14). -/
theorem jumpCursor_xy (p : Pos) (s : State) : ∃ x y,
    jumpCursor p s = { s with path := { s.path with cursor := some p }, axes := { s.axes with x := x, y := y } }
      ∧ ∀ g, s.segment? p.seq = some g → x.command = (g.pointAt p.dist).x ∧ y.command = (g.pointAt p.dist).y := by
  have under : (setCursor (some p) s).cursorSegment = s.segment? p.seq := rfl
  unfold jumpCursor followCursor
  rw [under]
  split
  · next q g hq hg =>
    obtain rfl : p = q := Option.some.inj hq
    refine ⟨_, _, rfl, fun h hh => ?_⟩
    obtain rfl : g = h := Option.some.inj (hg.symm.trans hh)
    exact ⟨rfl, rfl⟩
  · next none_there =>
    exact ⟨s.axes.x, s.axes.y, rfl, fun g hg => (none_there p g rfl hg).elim⟩

/-- A segment found after others have changed, each with its number. -/
theorem find?_map_seq {l : List Segment} {f : Segment → Segment} (hf : ∀ x, (f x).seq = x.seq) (n : Nat) :
    (l.map f).find? (fun x => x.seq == n) = (l.find? fun x => x.seq == n).map f := by
  rw [List.find?_map]
  refine congrArg (Option.map f) (congrArg (fun q => l.find? q) (funext fun x => ?_))
  exact congrArg (· == n) (hf x)

/-- The demand of a closed jet in the pre-charge (R93). -/
theorem demandOf_charged (hf : s.activeSet = some f) (hj : s.jet.state = .closed) (hp : preCharge s.cyc = true) :
    demandOf s = f.pPierce := by
  rw [demandOf, hf, hj]
  exact if_pos hp

/-- Entering PIERCE with the jet closed at the pre-charge: the first jet segment is ACTIVE with the cursor at its start. -/
theorem enterPierce_begins (hfirst : s.activeJets.head? = some g) (hrun : s.cyc.mstate = .running)
    (hf : s.activeSet = some f) (hj : s.jet.state = .closed) (hd : s.jet.demand = f.pPierce) :
    ∃ x y, enterPierce s = beginPierce { s with
      cyc := { s.cyc with phase := some .pierce }
      path := { s.path with cursor := some ⟨g.seq, 0⟩, speedSq := 0, motion := .rest }
      axes := { s.axes with x := x, y := y }
      prog := { s.prog with segments := s.prog.segments.map fun x =>
        if x.seq = g.seq then { x with state := .active } else x } }
      ∧ ∀ h, s.segment? g.seq = some h → x.command = (h.pointAt 0).x ∧ y.command = (h.pointAt 0).y := by
  have marked : (s.prog.segments.map fun x => if x.seq == g.seq then { x with state := .active } else x)
      = s.prog.segments.map fun x => if x.seq = g.seq then { x with state := .active } else x :=
    List.map_congr_left fun x _ => by simp
  obtain ⟨x, y, jumped, there⟩ := jumpCursor_xy ⟨g.seq, 0⟩ { s with
      path := { s.path with speedSq := 0, motion := .rest }
      prog := { s.prog with segments := s.prog.segments.map fun x =>
        if x.seq = g.seq then { x with state := .active } else x } }
  refine ⟨x, y, ?_, fun h hh => ?_⟩
  rotate_left
  · refine there { h with state := .active } ?_
    refine (find?_map_seq (fun x => by split <;> rfl) g.seq).trans ?_
    have number : h.seq = g.seq := by simpa using List.find?_some hh
    rw [State.segment?] at hh
    rw [hh, Option.map_some, if_pos number]
  rw [← marked] at jumped ⊢
  rw [enterPierce, hfirst]
  refine congrArg beginPierce ((congrArg (enterState .running (some .pierce)) jumped).trans ?_)
  rw [enterState_open _ _ _ (valvesAllowed_iff _ |>.mpr ⟨.inl rfl, .inl rfl⟩), ← hrun]
  refine reformDemand_same ?_
  exact (demandOf_charged (by exact hf) (by exact hj) (by rw [preCharge, hrun]; rfl)).trans hd.symm

/-- In CREEP step 1 names the move to cut height. -/
theorem beginPierce_creep (hm : s.setups.setup = some m) (hr : s.activeContour = some r) (hf : s.activeSet = some f)
    (hmethod : r.method = .creep) (hz : s.axes.z.command ≠ cutHeight m r f) :
    beginPierce s = { s with
      jet := { s.jet with pierceStep := some 1 }
      axes := { s.axes with z := { s.axes.z with speedSq := 0 } }, zmotion := .moving (cutHeight m r f) .pierceStep } := by
  rw [beginPierce, activeMethod_some hr, hmethod]
  exact (withCut_some (by exact hm) (by exact hr) (by exact hf)).trans (nameZMove_away _ _ _ _ (by exact hz))

/-- At its height already, a pierce goes on to step 2 (R89). -/
theorem nameZMove_there (purpose : ZPurpose) (go : State → State) (hz : s.axes.z.command = z)
    (hs : s.cyc.suspension = false) : nameZMove z purpose go s = go s :=
  (if_pos hz).trans (zArrived_plain s go hs)

/-- In STATIC and DRILLED at pierce height step 2 opens the jet. -/
theorem beginPierce_opens (hm : s.setups.setup = some m) (hr : s.activeContour = some r) (hf : s.activeSet = some f)
    (hz : s.axes.z.command = pierceHeight m r f) (hs : s.cyc.suspension = false) :
    (r.method = .static → beginPierce s = openJet .low true static3 (setStep (some 2) (setStep (some 1) s)))
    ∧ (r.method = .drilled → beginPierce s = openJet .cut true drilled3 (setStep (some 2) (setStep (some 1) s))) := by
  rw [beginPierce, activeMethod_some hr]
  refine ⟨fun h => ?_, fun h => ?_⟩
  · rw [h]
    exact (withCut_some (by exact hm) (by exact hr) (by exact hf)).trans
      (nameZMove_there .pierceStep static2 (by exact hz) (by exact hs))
  · rw [h]
    exact (withCut_some (by exact hm) (by exact hr) (by exact hf)).trans
      (nameZMove_there .pierceStep drilled2 (by exact hz) (by exact hs))

/-- Settles O51. -/
theorem probeContact : Obligations.ProbeContact := by
  unfold Obligations.ProbeContact
  intro m c r f z s hl hm hc hr hf
  refine ⟨fun hz hcontact => ?_, ?_, fun hz hrun ha haway => ?_, fun hz hrun hs hcontact => ?_,
    fun g hz hrun ha hcontact hfirst hj hd => ?_⟩
  · have contact : Machine.probeContact (s.onLines fun l => { l with contact := true }) = { s with
        lines := { s.lines with contact := true }, zmotion := .contactStop
        axes := { s.axes with z := { s.axes.z with latch := some s.axes.z.encoder } }
        cyc := { s.cyc with surface := some s.axes.z.encoder, suspension := true }
        prog := { s.prog with
          contours := s.prog.contours.set c (some { r with surfaceZ := some s.axes.z.encoder }) } } := by
      rw [Machine.probeContact]
      dsimp only
      rw [modActive_some (by exact hc) (by exact hr)]
      rfl
    refine congrArg Host.Outcome.next ((if_pos (by rw [hcontact]; rfl)).trans ?_)
    refine (live_live (s.onLines fun l => { l with contact := true }) contactMade hl).trans (Eq.trans ?_ contact)
    have descends : (s.onLines fun l => { l with contact := true }).zmotion = .probing z := hz
    rw [contactMade, descends]
  · exact congrArg Host.Outcome.next (live_live _ _ (by exact hl))
  · refine congrArg Host.Outcome.next ?_
    rw [live_live s _ hl, zRested, hz]
    refine (if_pos (advancing_iff.mpr ⟨by exact hrun, by exact ha⟩)).trans ?_
    refine (withCut_some (by exact hm) (activeContour_some (by exact hc) (by exact hr)) (by exact hf)).trans ?_
    exact nameZMove_away _ _ _ _ haway
  · have struck := (exec_zMoveComplete_arrived hl hz).trans
      (congrArg Host.Outcome.next (zArrived_struck (s := zReaches z s) _ hs hcontact))
    have fault := faultAction_taken { zReaches z s with cyc := { (zReaches z s).cyc with suspension := false } } .collision
      (mstate_ne hrun (by decide))
    refine ⟨_, struck, ?_, ?_⟩
    · rw [fault]
    · rw [fault]
      exact contour_abandoned hc hr
  · have arrived := (exec_zMoveComplete_arrived hl hz).trans
      (congrArg Host.Outcome.next ((zArrived_clear (s := zReaches z s) _ hcontact).trans
        (if_pos (advancing_iff.mpr ⟨by exact hrun, by exact ha⟩))))
    obtain ⟨x, y, begun, -⟩ := enterPierce_begins (f := f)
      (s := { zReaches z s with cyc := { (zReaches z s).cyc with suspension := false } }) (g := g) hfirst hrun hf hj hd
    have entered := arrived.trans (congrArg Host.Outcome.next begun)
    intro shape cut
    refine ⟨fun hmethod haway => ?_, fun js pd hmethod hheight hpump hb hband hn ht hdelay => ?_⟩
    · refine ⟨_, ⟨entered.trans (congrArg _ (beginPierce_creep (m := m) (r := r) (f := f) hm
        (activeContour_some (by exact hc) (by exact hr)) hf hmethod (by exact haway))), rfl, rfl, rfl, rfl⟩, rfl, rfl⟩
    · obtain ⟨static, drilled⟩ := beginPierce_opens (m := m) (r := r) (f := f) (s := { zReaches z s with
          cyc := { s.cyc with phase := some .pierce, suspension := false }
          path := { s.path with cursor := some ⟨g.seq, 0⟩, speedSq := 0, motion := .rest }
          axes := { (zReaches z s).axes with x := x, y := y }
          prog := { s.prog with segments := s.prog.segments.map fun x =>
            if x.seq = g.seq then { x with state := .active } else x } })
        hm (activeContour_some (by exact hc) (by exact hr)) hf hheight rfl
      obtain ⟨h, rfl, rfl⟩ | ⟨h, rfl, rfl⟩ := hmethod
      · refine ⟨_, ⟨entered.trans (congrArg _ ((static h).trans (openStep_settles (m := m) (f := f) hm hrun rfl hf hj hpump
          (by decide) (by decide) hb hband hn ht hdelay))), rfl, rfl, rfl, rfl⟩, rfl, rfl⟩
      · refine ⟨_, ⟨entered.trans (congrArg _ ((drilled h).trans (openStep_settles (m := m) (f := f) hm hrun rfl hf hj hpump
          (by decide) (by decide) hb hband hn ht hdelay))), rfl, rfl, rfl, rfl⟩, rfl, rfl⟩

end Sys2Proof.Proofs
end

section
/-! STEP PULSES AND ENCODER COUNTS (O52). Under each motion source a step pulse moves its own channel by at most a
micrometre and no encoder; the micrometre that each source asks for; and an encoder count. -/

namespace Sys2Proof.Proofs

open Sys2Proof.Machine

variable {s t : State} {m : MachineSetup} {a : Axis} {p : Pos} {g : Segment}

/-! ### At most a micrometre (R82) -/

/-- A channel that at most one step pulse has moved. -/
def Micrometre (c c' : Channel) : Prop := c'.encoder = c.encoder ∧ (c'.command - c.command).natAbs ≤ 1

theorem micrometre_refl (c : Channel) : Micrometre c c := ⟨rfl, by omega⟩

theorem micrometre_stepped (d : Side) (v : Nat) (c : Channel) : Micrometre c (c.stepped d v) := by
  refine ⟨rfl, ?_⟩
  simp only [Channel.stepped, Channel.pulse]
  cases d with
  | neg | pos => dsimp only; omega

theorem micrometre_coast (acc : Nat) (c : Channel) : Micrometre c (coast acc c) := by
  unfold coast
  split
  · exact micrometre_stepped _ _ c
  · exact micrometre_refl c

theorem micrometre_stepToward (acc vMax : Nat) (q : Int) (c : Channel) : Micrometre c (stepToward acc vMax q c) := by
  unfold stepToward
  split
  · exact micrometre_refl c
  · exact micrometre_stepped _ _ c

theorem micrometre_stepContinuous (acc vMax : Nat) (d : Side) (w : Option AxisSetup) (c : Channel) :
    Micrometre c (stepContinuous acc vMax d w c) := by
  unfold stepContinuous
  split
  · exact micrometre_coast acc c
  · split
    · exact micrometre_stepped _ _ c
    · exact micrometre_stepped _ _ c

theorem micrometre_stepToTarget (acc vMax : Nat) (q : Int) (slowing : Bool) (c : Channel) :
    Micrometre c (stepToTarget acc vMax q slowing c).1 := by
  unfold stepToTarget
  split
  · exact micrometre_coast acc c
  · split
    · exact micrometre_stepToward acc vMax q { c with speedSq := 0 }
    · exact micrometre_stepToward acc vMax q c

theorem micrometre_keepIn (w : Option AxisSetup) {c c' : Channel} (h : Micrometre c c') : Micrometre c (keepIn w c c') := by
  unfold keepIn
  split
  · exact h
  · split
    · exact micrometre_refl c
    · exact h

theorem micrometre_pulse (c : Channel) (q : Int) :
    Micrometre c (c.pulse (if c.command < q then c.command + 1 else c.command - 1)) := by
  refine ⟨rfl, ?_⟩
  simp only [Channel.pulse]
  split <;> omega

/-! ### The motion sources -/

/-- What a step pulse of an axis leaves: the Cycle Controller's items, every other axis, and its own but for at most a
micrometre. -/
def PulsesOnly (a : Axis) (s u : State) : Prop :=
  u.cyc = s.cyc ∧ (∀ b, b ≠ a → u.chan b = s.chan b) ∧ Micrometre (s.chan a) (u.chan a)

theorem pulsesOnly_refl (a : Axis) (s : State) : PulsesOnly a s s := ⟨rfl, fun _ _ => rfl, micrometre_refl _⟩

theorem pulsesOnly_onAxis {f : Channel → Channel} (h : Micrometre (s.chan a) (f (s.chan a))) : PulsesOnly a s (s.onAxis a f) :=
  ⟨rfl, fun b hb => State.onAxis_chan_other s a b f hb, by rwa [State.onAxis_chan_same]⟩

/-- Only the cycle and the axes count. -/
theorem PulsesOnly.of_axes {s' u u' : State} (h : PulsesOnly a s u) (hsc : s'.cyc = s.cyc) (hs : s'.axes = s.axes)
    (huc : u'.cyc = u.cyc) (hu : u'.axes = u.axes) : PulsesOnly a s' u' := by
  simp only [PulsesOnly, State.chan] at *
  rw [hsc, hs, huc, hu]
  exact h

theorem pulsesOnly_stepToPoint (a : Axis) (s : State) : PulsesOnly a s (stepToPoint a s) := by
  unfold stepToPoint
  split
  · exact pulsesOnly_refl a s
  · exact pulsesOnly_onAxis (micrometre_pulse _ _)

theorem cursorToPulse_path (n : Nat) (s : State) : ∃ p, cursorToPulse n s = { s with path := p } := by
  induction n generalizing s with
  | zero => exact ⟨_, rfl⟩
  | succ n ih =>
    obtain ⟨p, hp⟩ := cursorStep_path s
    obtain ⟨q, hq⟩ := ih (cursorStep s)
    simp only [cursorToPulse]
    split
    · exact ⟨p, hp⟩
    · exact ⟨q, by rw [hq, hp]⟩

theorem pulsesOnly_pathPulse (a : Axis) (s : State) : PulsesOnly a s (pathPulse a s) := by
  unfold pathPulse
  split
  · exact pulsesOnly_stepToPoint a s
  · split
    · exact pulsesOnly_refl a s
    · dsimp only
      split
      · obtain ⟨p, moved⟩ := cursorToPulse_path 4 s
        rw [moved]
        exact (pulsesOnly_stepToPoint a { s with path := p }).of_axes rfl rfl rfl rfl
      · exact pulsesOnly_refl a s

theorem pulsesOnly_zPulse (m : MachineSetup) (s : State) : PulsesOnly .z s (zPulse m s) := by
  unfold zPulse
  refine pulsesOnly_onAxis ?_
  cases s.zmotion with
  | rest => exact micrometre_refl _
  | stopMove q =>
    dsimp only
    split
    · exact micrometre_refl _
    · exact micrometre_coast _ _
  | moving _ _ | probing _ => exact micrometre_stepToward _ _ _ _
  | contactStop | stopProbe => exact micrometre_coast _ _

/-- The seek travel that CLEAR and SEEK count is not of the axes. -/
theorem PulsesOnly.counted {u : State} (h : PulsesOnly a s u) (seeking : Prop) [Decidable seeking] (f : Homing → Homing) :
    PulsesOnly a s (if seeking then u.onHoming f else u) := by
  split
  · exact h.of_axes rfl rfl rfl rfl
  · exact h

theorem pulsesOnly_homingPulse (a : Axis) (x : AxisSetup) (st : HomingStep) (s : State) :
    PulsesOnly a s (homingPulse a x st s) := by
  unfold homingPulse
  dsimp only
  split
  · exact pulsesOnly_refl a s
  · refine (pulsesOnly_onAxis ?_).counted _ _
    split
    · exact micrometre_coast _ _
    · cases st with
      | clear | seek => exact micrometre_stepped _ _ _
      | settle => exact micrometre_coast _ _
      | ret => exact micrometre_stepToward _ _ _ _

theorem pulsesOnly_jogPulse (a : Axis) (s : State) : PulsesOnly a s (jogPulse a s) := by
  unfold jogPulse
  dsimp only
  split
  · exact pulsesOnly_onAxis (micrometre_keepIn _ (micrometre_coast _ _))
  · split
    · exact (pulsesOnly_onAxis (f := fun _ => keepIn _ (s.chan a) _)
        (micrometre_keepIn _ (micrometre_stepToTarget _ _ _ _ _))).of_axes rfl rfl rfl rfl
    · exact pulsesOnly_onAxis (micrometre_keepIn _ (micrometre_stepContinuous _ _ _ _ _))
    · exact pulsesOnly_refl a s

/-! ### The pulse with its following check (R85) -/

/-- A following check that leaves the machine state passes. -/
theorem followingCheck_stays (h : (followingCheck a s).cyc.mstate = s.cyc.mstate) : followingCheck a s = s := by
  by_cases beyond : beyondLimit s a = true
  · have outside : s.cyc.mstate ≠ .fault := by
      unfold beyondLimit at beyond
      split at beyond
      · cases beyond
      · simp only [Bool.and_eq_true, bne_iff_ne] at beyond
        exact beyond.1.1
    rw [followingCheck, if_pos beyond, faultAction_taken s _ outside] at h
    exact absurd h.symm outside
  · exact if_neg beyond

theorem pulsesOnly_checked {u : State} (h : PulsesOnly a s u) (hm : (followingCheck a u).cyc.mstate = s.cyc.mstate) :
    PulsesOnly a s (followingCheck a u) := by
  rw [followingCheck_stays (hm.trans (congrArg CycleController.mstate h.1).symm)]
  exact h

theorem pulsesOnly_withSetup_z (s : State) : PulsesOnly .z s (withSetup zPulse s) := by
  unfold withSetup
  split
  · exact pulsesOnly_refl .z s
  · exact pulsesOnly_zPulse _ s

/-- A step pulse that keeps the machine state (R82). -/
theorem pulsesOnly_stepPulsed {u : State} (hu : stepPulsed a s = u) (hm : u.cyc.mstate = s.cyc.mstate) :
    PulsesOnly a s u := by
  have cycle (h : followingCheck a (if a = .z then withSetup zPulse s else pathPulse a s) = u) : PulsesOnly a s u := by
    subst h
    by_cases hz : a = .z
    · subst hz
      exact pulsesOnly_checked (pulsesOnly_withSetup_z s) hm
    · rw [if_neg hz] at hm ⊢
      exact pulsesOnly_checked (pulsesOnly_pathPulse a s) hm
  unfold stepPulsed at hu
  cases hstate : s.cyc.mstate with
  | running | holding | held | resuming =>
    rw [hstate] at hu
    refine cycle (Eq.trans ?_ hu)
    cases a <;> rfl
  | idle | unconfigured =>
    rw [hstate] at hu
    exact hu ▸ pulsesOnly_refl a s
  | homing =>
    rw [hstate] at hu
    dsimp only at hu
    split at hu
    · split at hu
      · subst hu
        exact pulsesOnly_checked (pulsesOnly_homingPulse a _ _ s) hm
      · exact hu ▸ pulsesOnly_refl a s
    · exact hu ▸ pulsesOnly_refl a s
  | jogging | fault =>
    rw [hstate] at hu
    dsimp only at hu
    split at hu
    · subst hu
      exact pulsesOnly_checked (pulsesOnly_jogPulse a s) hm
    · exact hu ▸ pulsesOnly_refl a s

/-! ### The cursor brings the next pulse (R72, R73, R78) -/

theorem leavesSpeed_of {q : ProfileGenerator}
    (h : g.cls = .traverse ∨ ∃ pl, g.plan = some pl ∧ 0 < pl.cruise * q.override / 100) : leavesSpeed q g = true := by
  obtain h | ⟨pl, hpl, hlow⟩ := h
  · rw [leavesSpeed, h]
  · rw [leavesSpeed, hpl]
    cases g.cls with
    | traverse => rfl
    | leadin | cut | tab | leadout => exact decide_eq_true hlow

theorem narrowed_le (s : State) (n : Nat) : narrowed s n ≤ n := by
  unfold narrowed
  split
  · split
    · exact Nat.min_le_right _ _
    · split
      · exact Nat.min_le_right _ _
      · exact le_rfl
  · exact le_rfl

/-- FORWARD motion on a jet segment stays within the scaled envelope (R68, R73). -/
theorem isqrt_forwardSpeed_le {pl : Plan} (hmotion : s.path.motion = .run) (hcls : g.cls ≠ .traverse)
    (hpl : g.plan = some pl) (d n : Nat) :
    isqrt (forwardSpeed s m g d n) ≤ envelope m.accel pl g.len (d + n) * s.path.override / 100 := by
  have scaled : scaledAt s m g (d + n) = envelope m.accel pl g.len (d + n) * s.path.override / 100 := by
    rw [scaledAt, hpl]
    rfl
  have low : forwardSpeed s m g d n ≤ scaledAt s m g (d + n) * scaledAt s m g (d + n) := by
    have bound := Nat.mul_le_mul (narrowed_le s (scaledAt s m g (d + n))) (narrowed_le s (scaledAt s m g (d + n)))
    rw [forwardSpeed, hmotion]
    cases h : g.cls with
    | traverse => exact absurd h hcls
    | leadin | cut | tab | leadout => exact (Nat.min_le_right _ _).trans bound
  rw [← scaled, isqrt_eq_sqrt]
  exact (Nat.sqrt_le_sqrt low).trans_eq (Nat.sqrt_eq _)

/-- An axis that the path owes nothing waits while the other's pulse is due (entry 15). -/
theorem pathPulse_waits {q : Point} (hq : s.pathPoint = some q) (h : (s.chan a).command = q.along a)
    (hother : (s.chan (acrossAxis a)).command ≠ q.along (acrossAxis a)) : pathPulse a s = s := by
  rw [pathPulse, owesPulse_there a hq h, if_neg Bool.false_ne_true, if_pos ((owesPulse_some hq).mpr hother)]

/-- Where both axes stand at the cursor's point, the cursor moves on to the next pulse. -/
theorem pathPulse_next (ha : a ≠ .z) (hrun : s.cyc.mstate = .running) (hm : s.setups.setup = some m)
    (hp : s.path.cursor = some p) (hg : s.cursorSegment = some g) (hdir : s.path.dir = .forward)
    (hmotion : s.path.motion = .run) (hlen : p.dist < g.len)
    (hgo : g.cls = .traverse ∨ ∃ pl, g.plan = some pl ∧ 0 < pl.cruise * s.path.override / 100)
    (hx : s.axes.x.command = (g.pointAt p.dist).x) (hy : s.axes.y.command = (g.pointAt p.dist).y)
    (howed : (s.chan a).command ≠ (g.pointAt (p.dist + 1)).along a) :
    pathPulse a s = { (s.onAxis a fun c => { c with
        command := if c.command < (g.pointAt (p.dist + 1)).along a then c.command + 1 else c.command - 1
        dir := if c.command < (g.pointAt (p.dist + 1)).along a then .pos else .neg }) with
      path := { s.path with cursor := some ⟨p.seq, p.dist + 1⟩, speedSq := forwardSpeed s m g p.dist 1 } } := by
  have one := cursorStep_forward hm hp hg (by rw [pathMoves, hmotion]; simp [leavesSpeed_of hgo]) hdir hlen
    (shortOfClose_other (by simp [rejoining, hrun]))
  have point := pathPoint_some (s := cursorStep s) (p := ⟨p.seq, p.dist + 1⟩) (by rw [one])
    ((cursorSegment_within (t := cursorStep s) (d := p.dist + 1) hp (by rw [one]) (by rw [one])).trans hg)
  have owed : owesPulse (cursorStep s) a = true := (owesPulse_some point).mpr (by rw [State.chan, cursorStep_axes]; exact howed)
  have here := pathPoint_some hp hg
  have none_x := owesPulse_there .x here hx
  have none_y := owesPulse_there .y here hy
  have either : (owesPulse (cursorStep s) .x || owesPulse (cursorStep s) .y) = true := by
    cases a with
    | z => exact absurd rfl ha
    | x => rw [owed, Bool.true_or]
    | y => rw [owed, Bool.or_true]
  have moved : cursorToPulse 4 s = cursorStep s := if_pos either
  have settled : owesPulse s a = false ∧ owesPulse s (acrossAxis a) = false := by
    cases a with
    | z => exact absurd rfl ha
    | x => exact ⟨none_x, none_y⟩
    | y => exact ⟨none_y, none_x⟩
  obtain ⟨own, across⟩ := settled
  have pulsed := pathPulse_owed (s := cursorStep s) point (by rw [State.chan, cursorStep_axes]; exact howed)
  rw [pathPulse, if_pos owed] at pulsed
  rw [pathPulse, own, across, if_neg Bool.false_ne_true, if_neg Bool.false_ne_true, moved]
  dsimp only
  rw [if_pos owed, pulsed, one]
  rfl

/-! ### The homing axis in SEEK (R161) -/

theorem homingPulse_seek {x : AxisSetup} (hstop : s.homing.stop = .none) (htravel : s.homing.travel < seekLimit x) :
    ∃ v, homingPulse a x .seek s = { (s.onAxis a fun c => c.stepped (homeSide x) v) with
      homing := { s.homing with travel := s.homing.travel + 1 } } := by
  have stepped : ((s.chan a).stepped (homeSide x) (min (x.homeSpeed * x.homeSpeed) (risen x.acceleration 1 (s.chan a).speedSq))
      ).command = (s.chan a).command + (match homeSide x with | .pos => 1 | .neg => -1) := rfl
  have one : (((s.chan a).command + (match homeSide x with | .pos => 1 | .neg => -1)) - (s.chan a).command).natAbs = 1 := by
    cases homeSide x with
    | neg | pos => dsimp only; omega
  have counted : max s.homing.travel (min (seekLimit x) (s.homing.travel + 1)) = s.homing.travel + 1 := by omega
  have sought : homingPulse a x .seek s = (s.onAxis a fun c => c.stepped (homeSide x)
        (min (x.homeSpeed * x.homeSpeed) (risen x.acceleration 1 c.speedSq))).onHoming fun h =>
      { h with travel := max h.travel (min (seekLimit x) (h.travel + ((s.onAxis a fun c => c.stepped (homeSide x)
        (min (x.homeSpeed * x.homeSpeed) (risen x.acceleration 1 c.speedSq))).command a - s.command a).natAbs)) } := by
    rw [homingPulse, hstop]
    exact if_neg (by simp [Nat.not_le.mpr htravel])
  refine ⟨min (x.homeSpeed * x.homeSpeed) (risen x.acceleration 1 (s.chan a).speedSq), ?_⟩
  rw [sought, State.command, State.onAxis_chan_same, stepped, State.command, one]
  exact congrArg (fun n => { (s.onAxis a fun c => c.stepped (homeSide x)
    (min (x.homeSpeed * x.homeSpeed) (risen x.acceleration 1 (s.chan a).speedSq))) with
      homing := { s.homing with travel := n } }) counted

/-! ### Encoder counts (R81, R84) -/

/-- Two changes of one channel are one. -/
theorem onAxis_onAxis (a : Axis) (f h : Channel → Channel) (s : State) :
    (s.onAxis a f).onAxis a h = s.onAxis a fun c => h (f c) := by
  cases a <;> rfl

theorem encoderSense_none (hm : s.setups.setup = none) (a : Axis) (up : Bool) :
    (if (up != encoderReversed s a) = true then (1 : Int) else -1) = if up then 1 else -1 := by
  rw [encoderReversed, hm]
  cases up <;> rfl

theorem command_homed (x : AxisSetup) (n : Int) :
    n + (match homeSide x with | .pos => 1 | .neg => -1) = if x.homeDirection = 0 then n - 1 else n + 1 := by
  rw [homeSide]
  by_cases h : x.homeDirection = 0
  · rw [if_pos h, if_pos h]
    rfl
  · rw [if_neg h, if_neg h]

/-- Settles O52. -/
theorem axisCounters : Obligations.AxisCounters := by
  refine ⟨fun m s hl hm => ?_, fun a s t h hstate => ?_, ?_⟩
  · have pulse {a : Axis} {u : State} (h : stepPulsed a s = u) : exec (.stepPulse a) s = .next u :=
      congrArg Host.Outcome.next ((live_live s (stepPulsed a) hl).trans h)
    refine ⟨fun a hidle => pulse ?_, ?_, ?_, ?_⟩
    · unfold stepPulsed
      rcases hidle with h | h <;> rw [h]
    · intro t0 purpose hc hz haway next hd
      obtain ⟨v, stepped⟩ := stepToward_away m.axes.z.acceleration m.axes.z.maxSpeed t0 s.axes.z haway
      have pulsed : zPulse m s = s.onAxis .z fun x =>
          { x with command := next, dir := if s.axes.z.command < t0 then .pos else .neg, speedSq := v } := by
        rw [zPulse, hz]
        exact congrArg (fun c => s.onAxes fun p => p.set .z c) stepped
      refine ⟨_, v, pulse ((stepPulsed_z hm hc).trans ?_), rfl⟩
      rw [pulsed, followingCheck_within _ .z m (by exact hm)]
      · rfl
      · exact hd
    · intro a p g ha hrun hp hg here next side
      have path := stepPulsed_path (s := s) ha (by rw [hrun]; rfl)
      have point := pathPoint_some hp hg
      refine ⟨fun haway hd => pulse ?_, fun hown hother hd => pulse ?_, ?_⟩
      · rw [path, pathPulse_owed point haway, followingCheck_within _ a m (by exact hm)]
        · rfl
        · rw [State.onAxis_chan_same]
          exact hd
      · rw [path, pathPulse_waits point hown hother, followingCheck_within _ a m hm hd]
      · intro hseq hdir hmotion hlen hgo hx hy q howed hd
        refine ⟨forwardSpeed s m g p.dist 1, pulse ?_, fun pl hcls hpl => isqrt_forwardSpeed_le hmotion hcls hpl p.dist 1⟩
        rw [path, pathPulse_next ha hrun hm hp hg hdir hmotion hlen hgo hx hy howed, followingCheck_within _ a m (by exact hm)]
        · rfl
        · have moved (u : State) (k : ProfileGenerator) : State.chan { u with path := k } a = u.chan a := rfl
          rw [moved, State.onAxis_chan_same]
          exact hd
    · intro a hhoming ha hstep hstop htravel next hd
      obtain ⟨v, sought⟩ := homingPulse_seek (a := a) hstop htravel
      have command : ((s.onAxis a fun c => c.stepped (homeSide (m.axes.get a)) v).chan a).command = next := by
        rw [State.onAxis_chan_same]
        exact command_homed _ _
      have encoder : ((s.onAxis a fun c => c.stepped (homeSide (m.axes.get a)) v).chan a).encoder = (s.chan a).encoder := by
        rw [State.onAxis_chan_same]
        rfl
      refine ⟨{ (s.onAxis a fun c => c.stepped (homeSide (m.axes.get a)) v) with
        homing := { s.homing with travel := s.homing.travel + 1 } }, pulse ?_, command, encoder, rfl,
        fun b hb => State.onAxis_chan_other s a b _ hb⟩
      unfold stepPulsed
      rw [hhoming]
      dsimp only
      rw [homingNow_some hm ha hstep]
      dsimp only
      rw [if_pos rfl, sought, followingCheck_within _ a m (by exact hm)]
      refine le_of_eq_of_le ?_ hd
      exact congrArg Int.natAbs (congrArg₂ (· - ·) command encoder)
  · have lived : live (stepPulsed a) s = t := Host.Outcome.next.inj h
    have pulsed : PulsesOnly a s t := by
      unfold live at lived
      split at lived
      · exact lived ▸ pulsesOnly_refl a s
      · exact pulsesOnly_stepPulsed lived hstate
    obtain ⟨-, others, encoder, command⟩ := pulsed
    exact ⟨others, encoder, command⟩
  · intro a up s hl d
    have count {u : State} (h : encoderCounted a up s = u) : exec (.encoderCount a up) s = .next u :=
      congrArg Host.Outcome.next ((live_live s (encoderCounted a up) hl).trans h)
    have sense : (if (up != encoderReversed s a) = true then (1 : Int) else -1) = d := by
      cases hm : s.setups.setup with
      | none => exact (encoderSense_none hm a up).trans (by simp only [d, hm])
      | some m => exact (encoderSense hm a up).trans (by simp only [d, hm])
    refine ⟨fun hm hj => count ?_, fun m hm h1 h2 hd => count ?_⟩
    · rw [encoderCounted, sense, if_pos (by rcases hm with hm | hm <;> simp [tracks, State.onAxis, State.onAxes, hm, hj])]
      exact onAxis_onAxis a _ _ s
    · rw [encoderCounted, sense, if_neg (by rw [tracks_of_outside (by exact h1) (by exact h2)]; decide),
        followingCheck_within _ a m (by exact hm)]
      rw [State.onAxis_chan_same]
      exact hd

end Sys2Proof.Proofs
end

section
/-! THE RESTART OF A PHASE (O38). RESUME outside HELD or with its cause present, and the resumed APPROACH, PROBE, RETRACT,
PIERCE and WAIT. -/

namespace Sys2Proof.Proofs

open Sys2Proof.Machine

variable {s t : State} {h : HoldRecord} {m : MachineSetup} {r : Contour} {f : ProcessSet}

/-! ### RESUME answered (R137, R138) -/

theorem answerResume_outside (hm : s.cyc.mstate ≠ .held) : answerResume s = refused .wrongState s := by
  unfold answerResume
  split
  · next held _ => exact absurd held hm
  · rfl

/-- The cause of the hold no longer stands in the way. -/
def CauseGone (h : HoldRecord) (l : Lines) : Prop :=
  h.cause = .request ∨ h.cause = .abrasive ∨ h.cause = .noSurface ∨ h.cause = .key ∨ l.pumprdy = true

theorem needsPump_iff {c : HoldCause} : c.needsPump = true ↔ c = .pump ∨ c = .pressureSettle ∨ c = .pressureDip := by
  cases c <;> simp [HoldCause.needsPump]

theorem answerResume_present (hm : s.cyc.mstate = .held) (hh : s.cyc.hold = some h) (hc : h.cause.needsPump = true)
    (hp : s.lines.pumprdy = false) : answerResume s = refused .causePresent s := by
  rw [answerResume, hm, hh]
  exact if_pos (by rw [hc, hp]; rfl)

theorem answerResume_passes (hm : s.cyc.mstate = .held) (hh : s.cyc.hold = some h) (hc : CauseGone h s.lines) :
    answerResume s = { accepted (if h.phase = .cut then [] else phaseItems (resumeEntered h s)) (resumeEntered h s) with
      after := resumeGoes h.phase } := by
  rw [answerResume, hm, hh]
  refine if_neg fun e => ?_
  obtain ⟨needs, pump⟩ := Bool.and_eq_true_iff.mp e
  have off : s.lines.pumprdy = false := by simpa using pump
  rcases hc with hc | hc | hc | hc | hc
  · simp [hc, HoldCause.needsPump] at needs
  · simp [hc, HoldCause.needsPump] at needs
  · simp [hc, HoldCause.needsPump] at needs
  · simp [hc, HoldCause.needsPump] at needs
  · simp [hc] at off

/-- A RESUME that passes, outside CUT: the reply is formed in the phase entered, which then goes on. -/
theorem exec_resume {tag : Byte} (htakes : Takes s .pendant .resume) (hm : s.cyc.mstate = .held)
    (hh : s.cyc.hold = some h) (hc : CauseGone h s.lines) (hp : h.phase ≠ .cut)
    (ht : resumeEntered h (frameEnded .pendant s) = t) :
    exec (.resume .pendant tag) s = .next (resumeGoes h.phase (sendReply .pendant tag .ok (phaseItems t) t)) := by
  subst ht
  refine congrArg Host.Outcome.next (serve_then htakes ((answerResume_passes (s := frameEnded .pendant s) hm hh hc).trans ?_))
  rw [if_neg hp]

/-! ### The Z move of the resumed phase -/

/-- A reply formed before a Z move is named is formed after it. -/
theorem toClearance_sendReply (p : Port) (tag : Byte) (items : List Item) (purpose : ZPurpose) (go : State → State)
    (hm : s.setups.setup = some m) (hz : s.axes.z.command ≠ m.zClearance) :
    toClearance purpose go (sendReply p tag .ok items s) = sendReply p tag .ok items
      { s with axes := { s.axes with z := { s.axes.z with speedSq := 0 } }, zmotion := .moving m.zClearance purpose } := by
  rw [toClearance, withSetup_some (by exact hm)]
  exact nameZMove_away _ _ _ _ hz

/-- What follows the reply in APPROACH, PROBE and RETRACT is a Z move to clearance. -/
theorem resumeGoes_clearance {ph : Phase} {purpose : ZPurpose}
    (h : (ph = .approach ∧ purpose = .approach) ∨ (ph = .probe ∧ purpose = .reprobe) ∨ (ph = .retract ∧ purpose = .retract)) :
    ∃ go, resumeGoes ph = toClearance purpose go := by
  rcases h with ⟨rfl, rfl⟩ | ⟨rfl, rfl⟩ | ⟨rfl, rfl⟩ <;> exact ⟨_, rfl⟩

/-- APPROACH, PROBE or RETRACT entered again: the jet is closed, at the pre-charge in the first two. -/
theorem resumeEntered_closed (hp : h.phase = .approach ∨ h.phase = .probe ∨ h.phase = .retract) :
    ∃ b, resumeEntered h s = { s with
      cyc := { s.cyc with mstate := .running, phase := some h.phase, hold := none }
      jet := { s.jet.shut b with demand := if h.phase = .retract then 0 else chargeOf s } } := by
  have charged {ph : Phase} (hph : ph = .approach ∨ ph = .probe) := enterState_charged ph (clearHold s) hph
  unfold resumeEntered
  obtain hp | hp | hp := hp
  · rw [hp]
    exact charged (.inl rfl)
  · rw [hp]
    exact charged (.inr rfl)
  · rw [hp]
    exact enterState_shut .running (some .retract) (clearHold s) rfl rfl

/-- PIERCE entered from a RESUME: RUNNING without the hold record, the closed jet at the pre-charge (R93, R138, R139). -/
def repierced (f : ProcessSet) (s : State) : State :=
  { s with
    cyc := { s.cyc with mstate := .running, phase := some .pierce, hold := none }
    jet := { s.jet with demand := f.pPierce, bandIn := bandAfter f.pPierce s } }

theorem enterPierce_resumed (hf : s.activeSet = some f) (hj : s.jet.state = .closed) :
    enterState .running (some .pierce) (clearHold s) = repierced f s := by
  rw [enterState_open _ _ _ (valvesAllowed_iff _ |>.mpr ⟨.inl rfl, .inl rfl⟩), reformDemand_eq,
    demandOf_charged (by exact hf) (by exact hj) rfl]
  rfl

/-- PIERCE entered again with the jet closed: the demand is the pre-charge. -/
theorem resumeEntered_pierce (hp : h.phase = .pierce) (hf : s.activeSet = some f) (hj : s.jet.state = .closed) :
    ∃ b, resumeEntered h s = { s with
      cyc := { s.cyc with mstate := .running, phase := some .pierce, hold := none }
      jet := { s.jet with demand := f.pPierce, bandIn := b } } := by
  rw [resumeEntered, hp]
  exact ⟨_, enterPierce_resumed hf hj⟩

/-- Step 1 of the contour's method names the move to its height (R104 to R106). -/
theorem beginPierce_moves (hm : s.setups.setup = some m) (hr : s.activeContour = some r) (hf : s.activeSet = some f) {z : Int}
    (hz : z = min (r.surfaceZ.getD m.nominalSurface + (if r.method = .creep then f.hCut else f.hPierce)) m.axes.z.softMax)
    (haway : s.axes.z.command ≠ z) :
    beginPierce s = { s with
      jet := { s.jet with pierceStep := some 1 }
      axes := { s.axes with z := { s.axes.z with speedSq := 0 } }, zmotion := .moving z .pierceStep } := by
  subst hz
  have pierce (g : MachineSetup → Contour → ProcessSet → State → State) : withCut g s = g m r f s := withCut_some hm hr hf
  rw [beginPierce, activeMethod_some hr]
  cases hmethod : r.method with
  | creep =>
    rw [if_pos hmethod] at haway
    exact (pierce _).trans (nameZMove_away _ _ _ _ haway)
  | static =>
    rw [if_neg (by rw [hmethod]; decide)] at haway
    exact (pierce _).trans (nameZMove_away _ _ _ _ haway)
  | drilled =>
    rw [if_neg (by rw [hmethod]; decide)] at haway
    exact (pierce _).trans (nameZMove_away _ _ _ _ haway)

theorem beginPierce_sendReply (p : Port) (tag : Byte) (items : List Item) (hm : s.setups.setup = some m)
    (hr : s.activeContour = some r) (hf : s.activeSet = some f) {z : Int}
    (hz : z = min (r.surfaceZ.getD m.nominalSurface + (if r.method = .creep then f.hCut else f.hPierce)) m.axes.z.softMax)
    (haway : s.axes.z.command ≠ z) :
    beginPierce (sendReply p tag .ok items s) = sendReply p tag .ok items { s with
      jet := { s.jet with pierceStep := some 1 }
      axes := { s.axes with z := { s.axes.z with speedSq := 0 } }, zmotion := .moving z .pierceStep } :=
  beginPierce_moves (s := sendReply p tag .ok items s) hm hr hf hz haway

/-- WAIT entered again before the continuation is applied. -/
theorem resumeEntered_wait (hp : h.phase = .wait) :
    ∃ b, resumeEntered h s = continuationWith id { s with
      cyc := { s.cyc with mstate := .running, phase := some .wait, hold := none }, jet := s.jet.shut b } := by
  obtain ⟨b, entered⟩ := enterState_shut .running (some .wait) (clearHold s) rfl rfl
  rw [resumeEntered, hp]
  exact ⟨b, congrArg (continuationWith id) entered⟩

/-- Settles O38. -/
theorem resumeRestartsPhase : Obligations.ResumeRestartsPhase := by
  refine ⟨⟨fun tag s htakes => ⟨fun hm => ?_, fun h hm hh hc hp => ?_⟩,
    fun tag h m purpose s htakes hm hh hc hsetup hz hphase => ?_⟩,
    fun tag h m r f s htakes hm hh hp hc hsetup hr hf hj => ?_, fun tag h s htakes hm hh hp hc => ?_⟩
  · exact congrArg Host.Outcome.next (serve_refused_by_owner htakes (answerResume_outside hm))
  · exact congrArg Host.Outcome.next (serve_refused_by_owner htakes
      (answerResume_present (s := frameEnded .pendant s) hm hh (needsPump_iff.mpr hc) hp))
  · obtain ⟨go, goes⟩ := resumeGoes_clearance hphase
    obtain ⟨b, entered⟩ := resumeEntered_closed (h := h) (s := frameEnded .pendant s)
      (hphase.imp And.left (Or.imp And.left And.left))
    have open_phase : h.phase ≠ .cut := by
      rcases hphase with ⟨e, -⟩ | ⟨e, -⟩ | ⟨e, -⟩ <;> rw [e] <;> decide
    have replied := exec_resume (tag := tag) htakes hm hh hc open_phase entered
    rw [goes] at replied
    exact ⟨_, replied.trans (congrArg _ (toClearance_sendReply (m := m) _ _ _ _ _ hsetup hz)), rfl, rfl⟩
  · intro height haway
    obtain ⟨b, entered⟩ := resumeEntered_pierce (h := h) (f := f) (s := frameEnded .pendant s) hp hf hj.1
    have replied := exec_resume (tag := tag) htakes hm hh hc (by rw [hp]; decide) entered
    rw [hp] at replied
    exact ⟨_, replied.trans (congrArg Host.Outcome.next
      (beginPierce_sendReply (m := m) (r := r) (f := f) .pendant tag _ (by exact hsetup) (by exact hr) (by exact hf)
        (z := height) rfl (by exact haway))), rfl⟩
  · obtain ⟨b, entered⟩ := resumeEntered_wait (h := h) (s := frameEnded .pendant s) hp
    have replied {t : State} (ht : continuationWith id { frameEnded .pendant s with
          cyc := { s.cyc with mstate := .running, phase := some .wait, hold := none }, jet := s.jet.shut b } = t) :
        exec (.resume .pendant tag) s = .next (approachTaken (sendReply .pendant tag .ok (phaseItems t) t)) := by
      have sent := exec_resume (tag := tag) htakes hm hh hc (by rw [hp]; decide) (entered.trans ht)
      rwa [hp] at sent
    refine ⟨fun hends => ?_, fun hstop hrun hload => ?_, fun c rest r f m hstop hrun hr hf hsetup hz => ?_⟩
    · refine ⟨_, (replied ((continuationWith_ends (by exact hends)).trans (endCycle_eq _))).trans
        (congrArg _ (approachTaken_waiting nofun)), rfl⟩
    · obtain ⟨b', shut⟩ := enterState_shut .running (some .wait) { frameEnded .pendant s with
        cyc := { s.cyc with mstate := .running, phase := some .wait, hold := none }, jet := s.jet.shut b } rfl rfl
      exact ⟨_, (replied ((continuationWith_waits (by exact hstop) (by exact hrun) (by exact hload)).trans shut)).trans
        (congrArg _ (approachTaken_waiting (by simp [sendReply]))), rfl⟩
    · obtain ⟨b', record⟩ := takeContour_record (c := c) (rest := rest) (s := { frameEnded .pendant s with
        cyc := { s.cyc with mstate := .running, phase := some .wait, hold := none }, jet := s.jet.shut b }) hr hf
      exact ⟨_, (replied ((continuationWith_head (by exact hstop) (by exact hrun)).trans record)).trans
        (congrArg _ (approachTaken_sendReply (m := m) _ _ _ rfl hsetup hz)), rfl⟩

end Sys2Proof.Proofs
end

section
/-! BOUNDARIES, KERF_START AND REJOIN (O47, O48). The cursor over a boundary that completes no segment; the BACKUP target, the
pierce run again from its step 1, and REJOIN to its end. -/

namespace Sys2Proof.Proofs

open Sys2Proof.Machine

variable {s t : State} {h : HoldRecord} {m : MachineSetup} {r : Contour} {f : ProcessSet} {g n : Segment} {p : Pos}

/-! ### The class under the cursor (R108) -/

/-- The jet stays where the class asks no change of it. -/
theorem followClass_stays {cls : SegClass}
    (h : s.jet.state = .closed ∨ (s.jet.state = .cut ∧ cls ≠ .tab) ∨ (s.jet.state = .tab ∧ cls = .tab)) :
    followClass cls s = s := by
  unfold followClass
  obtain hj | ⟨hj, hc⟩ | ⟨hj, rfl⟩ := h
  · rw [hj]
  · rw [hj]
    cases cls with
    | tab => exact absurd rfl hc
    | traverse | leadin | cut | leadout => rfl
  · rw [hj]

/-- Where a TAB is entered or left the jet enters TAB or CUT (R108). -/
def TabChange (f : ProcessSet) (was : JetState) (cls : SegClass) (js : JetState) (pd : Nat) : Prop :=
  (was = .cut ∧ cls = .tab ∧ js = .tab ∧ pd = f.pTab) ∨ (was = .tab ∧ cls ≠ .tab ∧ js = .cut ∧ pd = f.pCut)

theorem followClass_changes {cls : SegClass} {js : JetState} {pd : Nat} (hm : s.setups.setup = some m)
    (hv : valvesAllowed s.cyc = true) (hf : s.activeSet = some f) (hc : TabChange f s.jet.state cls js pd)
    (hne : pd ≠ s.jet.demand) (hd : m.pressureBand < absDiff s.lines.pfb pd) :
    followClass cls s = { s with jet := { s.jet with
      state := js, demand := pd, bandIn := false, settle := .running m.settleLimit, dip := .stopped
      dipWatch := false } } := by
  have out : bandAfter pd s = false := by
    rw [bandAfter, if_neg hne, bandOf_setup hm, decide_eq_false (Nat.not_le.mpr hd)]
  obtain ⟨hj, rfl, rfl, rfl⟩ | ⟨hj, hcls, rfl, rfl⟩ := hc
  · unfold followClass
    rw [hj]
    exact enterJet_settles (f := f) hm hv hf (by decide) (by decide) out
  · have enters : followClass cls s = enterJet .cut id s := by
      unfold followClass
      rw [hj]
      cases cls with
      | tab => exact absurd rfl hcls
      | traverse | leadin | cut | leadout => rfl
    exact enters.trans (enterJet_settles (f := f) hm hv hf (by decide) (by decide) out)

/-! ### Boundaries (R26, R75) -/

theorem arriveAtEnd_moves (m : MachineSetup) (p : Pos) (g : Segment) (s : State) : ∃ v x y,
    arriveAtEnd m p g s = { s with
      path := { s.path with cursor := some ⟨g.seq, g.len⟩, speedSq := v }, axes := { s.axes with x := x, y := y } }
      ∧ ∀ h, s.segment? g.seq = some h → x.command = (h.pointAt g.len).x ∧ y.command = (h.pointAt g.len).y := by
  obtain ⟨x, y, jumped, there⟩ := jumpCursor_xy ⟨g.seq, g.len⟩
    (setSpeed (forwardSpeed s m g p.dist (g.len - p.dist)) s)
  exact ⟨_, x, y, jumped, there⟩

theorem exec_boundary (hl : Live s) (hm : s.setups.setup = some m) (hp : s.path.cursor = some p)
    (hg : s.cursorSegment = some g) (hmotion : s.path.motion ≠ .rest) :
    (s.path.dir = .reverse → segmentBefore s g.seq = some n →
      exec .segmentBoundaryPassed s = .next (jumpCursor ⟨n.seq, n.len⟩
        (setSpeed (reverseSpeed s m p.dist (targetDistance s ⟨n.seq, n.len⟩)) s)))
    ∧ (s.path.dir = .forward → g.state = .retained → segmentAfter s g.seq = some n →
      exec .segmentBoundaryPassed s = .next (followClass n.cls (jumpCursor ⟨n.seq, 0⟩ (arriveAtEnd m p g s)))) := by
  have passed {u : State} (hu : boundaryPassed s = u) : exec .segmentBoundaryPassed s = .next u :=
    congrArg Host.Outcome.next ((live_live s _ hl).trans hu)
  refine ⟨fun hdir hbefore => passed ?_, fun hdir hstate hafter => passed ?_⟩
  · rw [boundaryPassed, hm, hp, hg]
    dsimp only
    rw [if_neg hmotion, hdir]
    dsimp only
    rw [hbefore]
  · rw [boundaryPassed, hm, hp, hg]
    dsimp only
    rw [if_neg hmotion, hdir]
    dsimp only
    rw [if_neg (by simp [hstate]), hafter]

/-- FORWARD over a boundary, before the jet follows the class: the cursor, its speed and the axes alone. -/
theorem boundary_jump (m : MachineSetup) (p : Pos) (g n : Segment) (s : State) : ∃ v x y,
    jumpCursor ⟨n.seq, 0⟩ (arriveAtEnd m p g s) = { s with
      path := { s.path with cursor := some ⟨n.seq, 0⟩, speedSq := v }, axes := { s.axes with x := x, y := y } } := by
  obtain ⟨v, x, y, arrived, -⟩ := arriveAtEnd_moves m p g s
  obtain ⟨x', y', jumped, -⟩ := jumpCursor_xy ⟨n.seq, 0⟩ (arriveAtEnd m p g s)
  rw [arrived] at jumped ⊢
  exact ⟨v, x', y', jumped⟩

/-- Settles O47. -/
theorem boundariesPass : Obligations.BoundariesPass := by
  intro m p g n s hl hm hp hg hmotion hn
  obtain ⟨back, on⟩ := exec_boundary (n := n) hl hm hp hg hmotion
  refine ⟨fun hdir hbefore => ?_, fun hdir hstate hafter hjet => ?_, fun hdir hstate hafter hv f js pd hf hc hne hd => ?_⟩
  · obtain ⟨x, y, jumped, there⟩ := jumpCursor_xy ⟨n.seq, n.len⟩
      (setSpeed (reverseSpeed s m p.dist (targetDistance s ⟨n.seq, n.len⟩)) s)
    obtain ⟨hx, hy⟩ := there n hn
    exact ⟨_, (back hdir hbefore).trans (congrArg _ jumped), rfl, rfl, rfl, rfl, hdir, hx, hy⟩
  · obtain ⟨v, x, y, jumped⟩ := boundary_jump m p g n s
    refine ⟨_, (on hdir hstate hafter).trans (congrArg _ ((congrArg (followClass n.cls) jumped).trans
      (followClass_stays (by exact hjet)))), rfl, rfl, rfl, rfl, hdir⟩
  · obtain ⟨v, x, y, jumped⟩ := boundary_jump m p g n s
    exact ⟨_, (on hdir hstate hafter).trans (congrArg _ ((congrArg (followClass n.cls) jumped).trans
      (followClass_changes (m := m) (f := f) (by exact hm) (by exact hv) (by exact hf) (by exact hc) (by exact hne)
        (by exact hd)))), rfl, rfl, rfl, rfl⟩

/-! ### The BACKUP target (R139, R141, R142) -/

/-- KERF START of a closed jet at a demand that leaves PFB outside the band (R94, R101). -/
theorem openJet_kerf {js : JetState} {onBand : State → State} (hm : s.setups.setup = some m)
    (hv : valvesAllowed s.cyc = true) (hf : s.activeSet = some f) (hclosed : s.jet.state = .closed)
    (hpump : s.lines.pumprdy = true) (h1 : js ≠ .closed) (h2 : js ≠ .ramp) (hne : stateDemand f js ≠ s.jet.demand)
    (hd : m.pressureBand < absDiff s.lines.pfb (stateDemand f js)) (hdelay : 0 < m.abrasiveDelay) :
    openJet js false onBand s = { s with jet := { s.jet with
      state := js, demand := stateDemand f js, bandIn := false, settle := .running m.settleLimit, dip := .stopped
      dipWatch := false, abrasiveDelay := .running m.abrasiveDelay } } := by
  have shut : s.jet.isOpen = false := by simp [Jet.isOpen, hclosed]
  have out : bandAfter (stateDemand f js) s = false := by
    rw [bandAfter, if_neg hne, bandOf_setup hm, decide_eq_false (Nat.not_le.mpr hd)]
  have isOpen : (js != .closed) = true := bne_iff_ne.mpr h1
  rw [openJet, hm]
  dsimp only
  rw [if_neg (by simp [shut, hv]), if_neg (by simp [hpump]), if_neg Bool.false_ne_true,
    enterJet_settles (onBand := onBand) hm hv hf h1 h2 out, if_pos (by exact isOpen), startAbrasive, if_neg (by omega)]
  rfl

theorem pierced_iff (hr : s.activeContour = some r) : pierced s = r.pierceComplete := by
  rw [pierced, hr]
  cases h : r.pierceComplete <;> simp [h]

/-- The cursor rests at the BACKUP target, with the jump of X and Y (R141). -/
def atTarget (target : Pos) (x y : Channel) (s : State) : State :=
  { s with
    path := { s.path with cursor := some target, speedSq := 0, motion := .rest }, axes := { s.axes with x := x, y := y } }

/-- BACKUP at its target (R141). -/
theorem targetReached_backup {target : Pos} (hm : s.cyc.mstate = .resuming) (ha : s.cyc.abortPending = false)
    (hh : s.cyc.hold = some h) (hstep : h.step = some .backup) (htarget : h.rejoin = some target)
    (hmotion : s.path.motion = .run) :
    ∃ x y, targetReached s = if pierced s then kerfStart (atTarget target x y s)
      else beginPierce (enterState .running (some .pierce) (clearHold (atTarget target x y s))) := by
  have backing : backingUp s = true := by rw [backingUp, resumeStep, hm, hh, Option.bind_some, hstep]; rfl
  have rejoin : s.cyc.hold.bind (·.rejoin) = some target := by rw [hh]; exact htarget
  obtain ⟨x, y, jumped, -⟩ := jumpCursor_xy target (s.onPath fun p => { p with speedSq := 0, motion := .rest })
  refine ⟨x, y, ?_⟩
  rw [targetReached, if_pos (by simp [backing, hmotion, ha]), backupReached, rejoin]
  dsimp only
  rw [jumped]
  rfl

theorem exec_backupTarget {target : Pos} (hl : Live s) (hm : s.cyc.mstate = .resuming) (ha : s.cyc.abortPending = false)
    (hh : s.cyc.hold = some h) (hstep : h.step = some .backup) (htarget : h.rejoin = some target)
    (hmotion : s.path.motion = .run) :
    ∃ x y, exec .backupTargetReached s = .next (if pierced s then kerfStart (atTarget target x y s)
      else beginPierce (enterState .running (some .pierce) (clearHold (atTarget target x y s)))) := by
  obtain ⟨x, y, reached⟩ := targetReached_backup hm ha hh hstep htarget hmotion
  exact ⟨x, y, congrArg Host.Outcome.next ((live_live s _ hl).trans reached)⟩

/-- KERF_START with the jet at rest at demand 0, PUMPRDY asserted and PFB outside the band (R142). -/
theorem kerfStart_opens (hm : s.setups.setup = some m) (hv : valvesAllowed s.cyc = true) (hf : s.activeSet = some f)
    (hh : s.cyc.hold = some h) (hj : s.jet.AtRest) (hd : s.jet.demand = 0) (hpump : s.lines.pumprdy = true)
    (hne : f.pCut ≠ 0) (hband : m.pressureBand < absDiff s.lines.pfb f.pCut) (hdelay : 0 < m.abrasiveDelay) :
    kerfStart s = { s with
      cyc := { s.cyc with hold := some { h with step := some .kerfStart } }
      jet := { s.jet with
        state := .cut, demand := f.pCut, bandIn := false, settle := .running m.settleLimit
        abrasiveDelay := .running m.abrasiveDelay } } := by
  obtain ⟨hclosed, -, hdip, hwatch, -⟩ := hj
  have quiet : { s.jet with dip := .stopped, dipWatch := false } = s.jet := by rw [← hdip, ← hwatch]
  have step : s.cyc.hold.map (fun h => { h with step := some .kerfStart }) = some { h with step := some .kerfStart } :=
    congrArg (Option.map fun h : HoldRecord => { h with step := some .kerfStart }) hh
  have opened := openJet_kerf (m := m) (f := f) (js := .cut) (onBand := kerfDwell) (s := setResumeStep .kerfStart s)
    hm hv hf hclosed hpump (by decide) (by decide) (by rw [stateDemand]; exact fun e => hne (e.trans hd)) hband hdelay
  refine opened.trans ?_
  exact congrArg₂ (fun (o : Option HoldRecord) (j : Jet) => { s with
    cyc := { s.cyc with hold := o }
    jet := { j with
      state := .cut, demand := f.pCut, bandIn := false, settle := .running m.settleLimit
      abrasiveDelay := .running m.abrasiveDelay } }) step quiet

/-- In CREEP with Z at cut height step 2 follows at once (R89, R105). -/
theorem beginPierce_creepThere (hm : s.setups.setup = some m) (hr : s.activeContour = some r) (hf : s.activeSet = some f)
    (hmethod : r.method = .creep) (hz : s.axes.z.command = cutHeight m r f) (hs : s.cyc.suspension = false) :
    beginPierce s = openJet .low true creep3 (setStep (some 2) (setStep (some 1) s)) := by
  rw [beginPierce, activeMethod_some hr, hmethod]
  exact (withCut_some (by exact hm) (by exact hr) (by exact hf)).trans (nameZMove_there .pierceStep creep2 (by exact hz)
    (by exact hs))

/-- Opening with PUMPRDY negated is a report of the pump (R101). -/
theorem openJet_noPump {js : JetState} {pierce : Bool} {onBand : State → State} (hm : s.setups.setup = some m)
    (hv : valvesAllowed s.cyc = true) (hclosed : s.jet.state = .closed) (hpump : s.lines.pumprdy = false) :
    openJet js pierce onBand s = jetReport .pump s := by
  have shut : s.jet.isOpen = false := by simp [Jet.isOpen, hclosed]
  rw [openJet, hm]
  dsimp only
  rw [if_neg (by simp [shut, hv]), if_pos (by simp [hpump])]

theorem holdTaken_axes {cause : HoldCause} {d : AlertDetail} (h : HoldTaken cause d s t) : t.axes = s.axes := by
  rw [h]

/-! ### REJOIN (R142 to R144) -/

theorem demandOf_running (hm : s.cyc.mstate = .resuming) :
    demandOf { s with cyc := { s.cyc with mstate := .running, phase := some .cut, hold := none } } = demandOf s := by
  have same : State.activeSet { s with cyc := { s.cyc with mstate := .running, phase := some .cut, hold := none } } = s.activeSet := rfl
  have before : preCharge s.cyc = false := by simp [preCharge, hm]
  rw [demandOf, demandOf, same, before]
  rfl

/-- Settles O48. -/
theorem kerfStartAndRejoin : Obligations.KerfStartAndRejoin := by
  refine ⟨?_, ?_, ?_, ?_, ?_⟩
  · intro m r f h target s hl hm hp ha hh hstep htarget hmotion hsetup hr hpierced hf hj hd hpump hne hband hdelay
    obtain ⟨x, y, reached⟩ := exec_backupTarget hl hm ha hh hstep htarget hmotion
    have opened := kerfStart_opens (m := m) (f := f) (s := atTarget target x y s) hsetup
      (valvesAllowed_iff _ |>.mpr ⟨.inr hm, .inr hp⟩) hf hh hj hd hpump hne hband hdelay
    exact ⟨_, reached.trans (congrArg _ ((if_pos ((pierced_iff hr).trans hpierced)).trans opened)), rfl, rfl, rfl, rfl, rfl⟩
  · intro m r f h target s hl hm hp ha hh hstep htarget hmotion hsetup hr hpierced hf hj height haway
    obtain ⟨x, y, reached⟩ := exec_backupTarget hl hm ha hh hstep htarget hmotion
    have entered := enterPierce_resumed (s := atTarget target x y s) hf hj.1
    have moves := beginPierce_moves (m := m) (r := r) (f := f) (s := repierced f (atTarget target x y s)) hsetup hr hf
      (z := height) rfl haway
    rw [if_neg (by rw [pierced_iff hr, hpierced]; decide), entered, moves] at reached
    exact ⟨_, reached, rfl, rfl⟩
  · intro m r f h target s hl hm hp ha hs hh hstep htarget hmotion hsetup hr hpierced hmethod hf hj hd hne hz begun
    obtain ⟨hclosed, -, hdip, hwatch, -⟩ := hj
    obtain ⟨x, y, reached⟩ := exec_backupTarget hl hm ha hh hstep htarget hmotion
    have entered := enterPierce_resumed (s := atTarget target x y s) hf hclosed
    have creeps := beginPierce_creepThere (m := m) (r := r) (f := f) (s := repierced f (atTarget target x y s)) hsetup hr hf
      hmethod hz hs
    rw [if_neg (by rw [pierced_iff hr, hpierced]; decide), entered, creeps] at reached
    refine ⟨fun hpump hband hn ht hdelay => ?_, fun hpump => ?_⟩
    · have out : bandAfter f.pPierce (atTarget target x y s) = false := by
        rw [bandAfter, if_neg (fun e => hne (e.trans hd)), bandOf_setup (by exact hsetup)]
        exact decide_eq_false (Nat.not_le.mpr hband)
      have opened := openStep_settles (m := m) (f := f) (js := .low) (onBand := creep3)
        (s := setStep (some 1) (repierced f (atTarget target x y s))) hsetup rfl rfl hf hclosed hpump (by decide) (by decide)
        out hband hn ht hdelay
      have quiet : { s.jet with dip := .stopped, dipWatch := false } = s.jet := by rw [← hdip, ← hwatch]
      refine ⟨_, reached.trans (congrArg _ opened), rfl, ?_⟩
      exact congrArg₂ (fun (j : Jet) (b : Bool) => { begun { s.axes with x := x, y := y } with jet := { j with
        state := .low, demand := f.pPierce, bandIn := b, pierceStep := some 2, settle := .running m.settleLimit
        abrasiveDelay := .running m.abrasiveDelay, pierceCount := min 4294967295 (s.jet.pierceCount + 1)
        wearJetTime := false, wearPierceCount := false } }) quiet out
    · have held := openJet_noPump (js := .low) (pierce := true) (onBand := creep3) (m := m)
        (s := setStep (some 2) (setStep (some 1) (repierced f (atTarget target x y s)))) hsetup
        (valvesAllowed_iff _ |>.mpr ⟨.inl rfl, .inl rfl⟩) hclosed hpump
      have report : jetReport .pump (setStep (some 2) (setStep (some 1) (repierced f (atTarget target x y s))))
          = holdCause .pump { jetState := some .closed, demand := some f.pPierce }
              (setStep (some 2) (setStep (some 1) (repierced f (atTarget target x y s)))) :=
        congrArg (fun js => holdCause .pump { jetState := some js, demand := some f.pPierce } _) hclosed
      have taken := holdCause_taken (setStep (some 2) (setStep (some 1) (repierced f (atTarget target x y s)))) .pump
        { jetState := some .closed, demand := some f.pPierce } (.inl rfl) ha
      refine ⟨_, reached.trans (congrArg _ (held.trans report)), (congrArg PerAxis.z (holdTaken_axes taken) :), ?_⟩
      rw [holdTaken_axes taken]
      exact holdTaken_of_jet (s := begun { s.axes with x := x, y := y }) taken fun _ => rfl
  · intro h ms g s hl hh htimer hg hcls hj
    refine congrArg Host.Outcome.next ((live_live s _ hl).trans ?_)
    have step : setResumeStep .rejoin (stopPierceTimer s) = { s with
        cyc := { s.cyc with hold := some { h with step := some .rejoin } }
        jet := { s.jet with pierceTimer := .stopped } } := by
      refine congrArg (fun o : Option HoldRecord => { s with
        cyc := { s.cyc with hold := o }, jet := { s.jet with pierceTimer := .stopped } }) ?_
      exact congrArg (Option.map fun h : HoldRecord => { h with step := some .rejoin }) hh
    have under : (releasePath (setSpeed 0 (setResumeStep .rejoin (stopPierceTimer s)))).cursorSegment = some g := hg
    rw [rejoinDwellEnded, htimer]
    dsimp only
    rw [beginRejoin, under]
    dsimp only
    rw [followClass_stays (.inr (.inl ⟨by exact hj, hcls⟩)), step]
    rfl
  · intro m h jc p g s hl hm hp ha hh hstep hclose hmotion hsetup hcursor hg hbehind hd
    have rejoins : rejoining s = true := by rw [rejoining, resumeStep, hm, hh, Option.bind_some, hstep]; rfl
    have closePoint : s.cyc.hold.bind (·.jetClose) = some jc := by rw [hh]; exact hclose
    refine congrArg Host.Outcome.next ((live_live s _ hl).trans ?_)
    rw [closePointPassed, hsetup, hcursor, hg, closePoint]
    dsimp only
    rw [if_pos (by simp [rejoins, hmotion, ha]), if_pos hbehind, endRejoin,
      enterState_open _ _ _ (valvesAllowed_iff _ |>.mpr ⟨.inl rfl, .inr rfl⟩)]
    refine (reformDemand_same ((demandOf_running hm).trans hd.symm)).trans ?_
    rw [← hp]

end Sys2Proof.Proofs
end

section
/-! THE COMPLETION OF SEGMENTS (O46). What the Program Store keeps of a completed jet segment and of a completed TRAVERSE,
which segment comes next, and what follows the last of each. -/

namespace Sys2Proof.Proofs

open Sys2Proof.Machine

variable {s t : State} {m : MachineSetup} {c : Fin Config.contours} {r : Contour} {f : ProcessSet} {g n : Segment} {p : Pos}

/-! ### Segments by their numbers (R19) -/

theorem eq_of_seq {l : List Segment} (hl : (l.map (·.seq)).Pairwise (· < ·)) {x y : Segment} (hx : x ∈ l) (hy : y ∈ l)
    (h : x.seq = y.seq) : x = y :=
  List.inj_on_of_nodup_map (hl.imp ne_of_lt) hx hy h

theorem find?_seq_of_mem {l : List Segment} (hl : (l.map (·.seq)).Pairwise (· < ·)) {x : Segment} (hx : x ∈ l) :
    l.find? (fun y => y.seq == x.seq) = some x := by
  obtain ⟨y, hy⟩ := Option.isSome_iff_exists.mp (List.find?_isSome (p := fun y : Segment => y.seq == x.seq) |>.mpr ⟨x, hx, by simp⟩)
  rw [hy, eq_of_seq hl (List.mem_of_find?_eq_some hy) hx (by simpa using List.find?_some hy)]

theorem segment?_seq {k : Nat} (h : s.segment? k = some g) : g.seq = k :=
  beq_iff_eq.mp (List.find?_some (p := fun x : Segment => x.seq == k) h)

/-- A segment found stays found where those before it stay not sought and it is kept as it is. -/
theorem find?_kept {l : List Segment} {sought keep : Segment → Bool} {change : Segment → Segment}
    (hchange : ∀ x, sought (change x) = sought x) (hn : l.find? sought = some n) (hsame : change n = n) (hkeep : keep n = true) :
    ((l.map change).filter keep).find? sought = some n := by
  obtain ⟨hp, before, after, rfl, hbefore⟩ := List.find?_eq_some_iff_append.mp hn
  refine List.find?_eq_some_iff_append.mpr ⟨hp, (before.map change).filter keep, (after.map change).filter keep, ?_, ?_⟩
  · simp [hsame, hkeep]
  · intro x hx
    obtain ⟨y, hy, rfl⟩ := List.mem_map.mp (List.mem_filter.mp hx).1
    rw [hchange]
    exact hbefore y hy

theorem find?_none_kept {l : List Segment} {sought keep : Segment → Bool} {change : Segment → Segment}
    (hchange : ∀ x, sought (change x) = sought x) (hn : l.find? sought = none) :
    ((l.map change).filter keep).find? sought = none := by
  refine List.find?_eq_none.mpr fun x hx => ?_
  obtain ⟨y, hy, rfl⟩ := List.mem_map.mp (List.mem_filter.mp hx).1
  rw [hchange]
  exact List.find?_eq_none.mp hn y hy

theorem segmentAfter_eq (hc : s.cyc.active = some c) (k : Nat) :
    segmentAfter s k = s.prog.segments.find? fun x => x.contour == c && decide (k < x.seq) := by
  rw [segmentAfter, State.activeSegments, hc]
  refine (List.find?_filter (xs := s.prog.segments)).trans (congrArg (fun q => List.find? q _) (funext fun x => ?_))
  rw [Bool.decide_and, Bool.decide_eq_true, Bool.decide_eq_true]

/-! ### A completed jet segment (R2, R25, R34) -/

/-- The segment is RETAINED. -/
def retain (g x : Segment) : Segment := if x.seq = g.seq then { x with state := .retained } else x

/-- The segments that the window test releases at the completion of a jet segment (R34). -/
def windowGone (m : MachineSetup) (c : Fin Config.contours) (g : Segment) (s : State) : List Segment :=
  let retained := (s.prog.segments.map (retain g)).filter fun x => x.contour == c && x.state == .retained
  retained.take (retained.length - (windowKeeps m.backupReach retained).length)

/-- The Program Store after the completion: the progress fields raised, the segment RETAINED, the window tested. -/
def jetCompleted (m : MachineSetup) (c : Fin Config.contours) (r : Contour) (g : Segment) (s : State) : State :=
  { s with prog := { s.prog with
    contours := s.prog.contours.set c (some { r with completed := r.completed + 1, lengthDone := r.lengthDone + g.len })
    segments := (s.prog.segments.map (retain g)).filter fun x => !(windowGone m c g s).any fun y => y.seq == x.seq } }

theorem retain_seq (g x : Segment) : (retain g x).seq = x.seq := by
  unfold retain
  split <;> rfl

theorem retain_contour (g x : Segment) : (retain g x).contour = x.contour := by
  unfold retain
  split <;> rfl

theorem testWindow_completed (hm : s.setups.setup = some m) (hc : s.cyc.active = some c) (hr : s.contour? c = some r) :
    testWindow ((s.modSegment g.seq fun g => { g with state := .retained }).modActive fun r =>
      { r with completed := r.completed + 1, lengthDone := r.lengthDone + g.len }) = jetCompleted m c r g s := by
  have marked : (s.prog.segments.map fun x => if x.seq == g.seq then { x with state := .retained } else x)
      = s.prog.segments.map (retain g) := List.map_congr_left fun x _ => by simp [retain]
  have modified : (s.modSegment g.seq fun g => { g with state := .retained })
      = { s with prog := { s.prog with segments := s.prog.segments.map (retain g) } } :=
    congrArg (fun segs => { s with prog := { s.prog with segments := segs } }) marked
  have retained : (((s.prog.segments.map (retain g)).filter fun x => x.contour == c).filter fun x => x.state == .retained)
      = (s.prog.segments.map (retain g)).filter fun x => x.contour == c && x.state == .retained := by
    rw [List.filter_filter]
    exact List.filter_congr fun x _ => Bool.and_comm _ _
  rw [modified, modActive_some (s := { s with prog := { s.prog with segments := s.prog.segments.map (retain g) } }) hc hr,
    testWindow, withSetup_some (by exact hm)]
  dsimp only
  rw [State.activeSegments]
  dsimp only
  rw [hc]
  dsimp only
  rw [State.segmentsOf]
  dsimp only
  rw [retained]
  rfl

/-- The next segment is released by no window test: it is not RETAINED. -/
theorem next_kept (hs : SequenceLaw s) (hn : n ∈ s.prog.segments) (hne : n.seq ≠ g.seq) (hstate : n.state ≠ .retained) :
    (!(windowGone m c g s).any fun y => y.seq == n.seq) = true := by
  rw [Bool.not_eq_true', List.any_eq_false]
  intro y hy e
  obtain ⟨hmem, hretained⟩ := List.mem_filter.mp (List.mem_of_mem_take hy)
  obtain ⟨x, hx, rfl⟩ := List.mem_map.mp hmem
  have number : x.seq = n.seq := by simpa [retain_seq] using e
  obtain rfl := eq_of_seq hs.1 hx hn number
  rw [retain, if_neg hne] at hretained
  simp [hstate] at hretained

theorem jetCompleted_after (hs : SequenceLaw s) (hc : s.cyc.active = some c) :
    (segmentAfter s g.seq = none → segmentAfter (jetCompleted m c r g s) g.seq = none)
    ∧ (segmentAfter s g.seq = some n → n.state = .planned → segmentAfter (jetCompleted m c r g s) g.seq = some n) := by
  have change (x : Segment) : (fun x : Segment => x.contour == c && decide (g.seq < x.seq)) (retain g x)
      = (fun x : Segment => x.contour == c && decide (g.seq < x.seq)) x := by
    dsimp only
    rw [retain_seq, retain_contour]
  rw [segmentAfter_eq hc, segmentAfter_eq (s := jetCompleted m c r g s) hc]
  refine ⟨find?_none_kept change, fun hn hstate => ?_⟩
  have later : g.seq < n.seq := by
    have := List.find?_some hn
    simp at this
    exact this.2
  refine find?_kept change hn (if_neg later.ne') (next_kept hs (List.mem_of_find?_eq_some hn) later.ne' ?_)
  rw [hstate]
  decide

/-- The segments after the completion, the next one ACTIVE, as one change of those that are kept. -/
theorem completed_segments (m : MachineSetup) (c : Fin Config.contours) (s : State) (hne : g.seq ≠ n.seq) :
    (((s.prog.segments.map (retain g)).filter fun x => !(windowGone m c g s).any fun y => y.seq == x.seq).map fun x =>
        if x.seq == n.seq then { x with state := .active } else x)
      = (s.prog.segments.filter fun x => !((windowGone m c g s).map (·.seq)).contains x.seq).map fun x =>
          if x.seq = g.seq then { x with state := .retained }
          else if x.seq = n.seq then { x with state := .active } else x := by
  rw [List.filter_map, List.map_map]
  have kept : (fun x => !(windowGone m c g s).any fun y => y.seq == x.seq) ∘ retain g
      = fun x => !((windowGone m c g s).map (·.seq)).contains x.seq := by
    funext x
    rw [Function.comp, retain_seq, Bool.eq_iff_iff]
    simp
  rw [kept]
  refine List.map_congr_left fun x _ => ?_
  rw [Function.comp, retain_seq, retain]
  by_cases e : x.seq = g.seq
  · rw [if_pos e, if_pos e, if_neg (by simp [e, hne])]
  · rw [if_neg e, if_neg e]
    simp only [beq_iff_eq]

/-- The jet segment completed, the next one ACTIVE under the cursor (R25, R74). -/
def nextBegun (m : MachineSetup) (c : Fin Config.contours) (r : Contour) (g n : Segment) (s : State) : State :=
  { jetCompleted m c r g s with
    prog := { (jetCompleted m c r g s).prog with
      segments := (jetCompleted m c r g s).prog.segments.map fun x => if x.seq == n.seq then { x with state := .active } else x }
    path := { s.path with cursor := some ⟨n.seq, 0⟩ } }

theorem completeJet_next (hs : SequenceLaw s) (hm : s.setups.setup = some m) (hc : s.cyc.active = some c)
    (hr : s.contour? c = some r) (hn : segmentAfter s g.seq = some n) (hstate : n.state = .planned) :
    completeJet g s = followClass n.cls (nextBegun m c r g n s) := by
  rw [completeJet]
  dsimp only
  rw [testWindow_completed hm hc hr, (jetCompleted_after hs hc).2 hn hstate]
  rfl

theorem completeJet_last (hs : SequenceLaw s) (hm : s.setups.setup = some m) (hc : s.cyc.active = some c)
    (hr : s.contour? c = some r) (hn : segmentAfter s g.seq = none) :
    completeJet g s = endJets (jetCompleted m c r g s) := by
  rw [completeJet]
  dsimp only
  rw [testWindow_completed hm hc hr, (jetCompleted_after (n := g) hs hc).1 hn]

theorem endJets_running (hrun : s.cyc.mstate = .running) (ha : s.cyc.abortPending = false) :
    endJets s = beginRetract (clearCursor s) := by
  have running : (clearCursor s).cyc.mstate = .running := hrun
  have off : (clearCursor s).cyc.abortPending = false := ha
  rw [endJets, if_neg (by rw [off]; decide), running]

/-- RETRACT begun with Z away from clearance (R120). -/
theorem beginRetract_moves (hm : s.setups.setup = some m) (hz : s.axes.z.command ≠ m.zClearance) :
    ∃ b, beginRetract s = { s with
      cyc := { s.cyc with mstate := .running, phase := some .retract }, jet := s.jet.shut b
      axes := { s.axes with z := { s.axes.z with speedSq := 0 } }, zmotion := .moving m.zClearance .retract } := by
  obtain ⟨b, shut⟩ := enterState_shut .running (some .retract) (closeJet s) rfl rfl
  rw [closeJet_eq] at shut
  rw [beginRetract, closeJet_eq, shut, toClearance, withSetup_some (by exact hm)]
  exact ⟨b, nameZMove_away _ _ _ _ hz⟩

/-! ### A completed TRAVERSE (R25, R74) -/

/-- The first segment of a contour leaves the store: the rest stay. -/
theorem dropped_segmentsOf (hs : SequenceLaw s) (hg : (s.segmentsOf c).head? = some g) :
    (s.dropSegments fun x => x.seq == g.seq).segmentsOf c = (s.segmentsOf c).tail := by
  have swap : (s.dropSegments fun x => x.seq == g.seq).segmentsOf c = (s.segmentsOf c).filter fun x => !(x.seq == g.seq) := by
    change (s.prog.segments.filter _).filter _ = (s.prog.segments.filter _).filter _
    rw [List.filter_filter, List.filter_filter]
    exact List.filter_congr fun x _ => Bool.and_comm _ _
  have rising : ((s.segmentsOf c).map (·.seq)).Pairwise (· < ·) :=
    hs.1.sublist (List.filter_sublist.map _)
  rw [swap]
  cases hl : s.segmentsOf c with
  | nil => rfl
  | cons x rest =>
    rw [hl, List.head?_cons] at hg
    obtain rfl := Option.some.inj hg
    rw [hl, List.map_cons, List.pairwise_cons] at rising
    rw [List.filter_cons_of_neg (by simp), List.tail_cons]
    refine List.filter_eq_self.mpr fun y hy => ?_
    have := rising.1 _ (List.mem_map_of_mem hy)
    simp [this.ne']

/-- A contour that stands at its first jet segment (R1). -/
theorem activeJets_first (hc : s.cyc.active = some c) (h : (s.segmentsOf c).head? = some n) (hn : n.cls ≠ .traverse) :
    s.activeJets.head? = some n := by
  rw [State.activeJets, State.activeSegments, hc]
  dsimp only
  cases hl : s.segmentsOf c with
  | nil =>
    rw [hl] at h
    cases h
  | cons x rest =>
    rw [hl, List.head?_cons] at h
    obtain rfl := Option.some.inj h
    rw [List.filter_cons_of_pos (by exact isJet_of_ne hn), List.head?_cons]

theorem nextTraverse_dropped (hs : SequenceLaw s) (hc : s.cyc.active = some c) (hg : (s.segmentsOf c).head? = some g) :
    (∀ n, (s.segmentsOf c)[1]? = some n → n.cls = .traverse →
      nextTraverse (s.dropSegments fun x => x.seq == g.seq) = some n)
    ∧ ((∀ n, (s.segmentsOf c)[1]? = some n → n.cls ≠ .traverse) →
      nextTraverse (s.dropSegments fun x => x.seq == g.seq) = none) := by
  have first : (s.dropSegments fun x => x.seq == g.seq).activeSegments.head? = (s.segmentsOf c)[1]? := by
    rw [State.activeSegments, State.dropSegments_cyc, hc]
    dsimp only
    rw [dropped_segmentsOf hs hg, List.head?_tail]
  rw [nextTraverse, first]
  refine ⟨fun n hn hcls => ?_, fun hnone => ?_⟩
  · rw [hn]
    exact if_pos hcls
  · cases hn : (s.segmentsOf c)[1]? with
    | none => rfl
    | some n => exact if_neg (hnone n hn)

/-- The next TRAVERSE begins at its start (R24, R76). -/
theorem completeTraverse_next (hs : SequenceLaw s) (hc : s.cyc.active = some c) (hg : (s.segmentsOf c).head? = some g)
    (hn : (s.segmentsOf c)[1]? = some n) (hcls : n.cls = .traverse) (hgo : advancing s = true) :
    completeTraverse g.seq s = { s with
      prog := { s.prog with segments := (s.prog.segments.filter fun x => x.seq != g.seq).map fun x =>
        if x.seq = n.seq then { x with state := .active } else x }
      path := { s.path with cursor := some ⟨n.seq, 0⟩, dir := .forward, speedSq := 0, motion := .run } } := by
  have marked : ((s.prog.segments.filter fun x => x.seq != g.seq).map fun x =>
        if x.seq == n.seq then { x with state := .active } else x)
      = (s.prog.segments.filter fun x => x.seq != g.seq).map fun x =>
        if x.seq = n.seq then { x with state := .active } else x := List.map_congr_left fun x _ => by simp
  rw [completeTraverse]
  dsimp only
  rw [(nextTraverse_dropped hs hc hg).1 n hn hcls, ← marked]
  exact if_pos hgo

/-- The last TRAVERSE gone from the store and the cursor absent (R74). -/
def traversesEnded (g : Segment) (s : State) : State :=
  { s with
    prog := { s.prog with segments := s.prog.segments.filter fun x => x.seq != g.seq }
    path := { s.path with cursor := none, speedSq := 0, motion := .rest } }

/-- The TRAVERSEs have ended: the cursor is absent and the phase PROBE (R74, R114). -/
theorem completeTraverse_last (hs : SequenceLaw s) (hc : s.cyc.active = some c) (hg : (s.segmentsOf c).head? = some g)
    (hn : ∀ n, (s.segmentsOf c)[1]? = some n → n.cls ≠ .traverse) (hgo : advancing s = true) :
    completeTraverse g.seq s = enterProbe (traversesEnded g s) := by
  rw [completeTraverse, (nextTraverse_dropped hs hc hg).2 hn]
  exact if_pos hgo

/-- Phase PROBE, with the jet closed at the pre-charge (R93, R115). -/
def probeEntered (b : Bool) (s : State) : State :=
  { s with
    cyc := { s.cyc with mstate := .running, phase := some .probe }, jet := { s.jet.shut b with demand := chargeOf s } }

/-- The current surface is the contour's (R116). -/
def surfaceCarried (c : Fin Config.contours) (r : Contour) (s : State) : State :=
  { s with prog := { s.prog with contours := s.prog.contours.set c (some { r with surfaceZ := s.cyc.surface }) } }

theorem surfaceCarried_contour (c : Fin Config.contours) (r : Contour) (s : State) :
    (surfaceCarried c r s).contour? c = some { r with surfaceZ := s.cyc.surface } := by
  simp [State.contour?, surfaceCarried]

/-- PROBE entered, and what the surface mode asks. -/
theorem enterProbe_mode (hr : s.activeContour = some r) :
    ∃ b, (r.surfaceMode = .probe → enterProbe s = startDescent (probeEntered b s))
      ∧ (r.surfaceMode = .carry → ∀ c, s.cyc.active = some c → s.contour? c = some r →
          enterProbe s = enterPierce (surfaceCarried c r (probeEntered b s))) := by
  obtain ⟨b, entered⟩ := enterState_charged .probe s (.inr rfl)
  refine ⟨b, ?_⟩
  have mode (u : State) (hu : u.activeContour = some r) : activeSurfaceMode u = some r.surfaceMode := by
    rw [activeSurfaceMode, hu]
    rfl
  rw [enterProbe, entered, mode _ (by exact hr)]
  refine ⟨fun h => ?_, fun h c hc hr => ?_⟩
  · rw [h]
    rfl
  · rw [h]
    exact congrArg enterPierce (modActive_some (s := probeEntered b s) hc hr fun r => { r with surfaceZ := s.cyc.surface })

theorem segments_abandoned {why : AbandonReason} (hc : s.cyc.active = some c) :
    ∀ x ∈ (programAbandoned why s).segments, x.contour ≠ c := by
  rw [programAbandoned, hc]
  intro x hx
  simpa using (List.mem_filter.mp hx).2

/-! ### The report of the completion -/

/-- The cursor at the end of its segment, with the speed it then has and the jump of X and Y (entry 14). -/
def atEnd (g : Segment) (v : Nat) (x y : Channel) (s : State) : State :=
  { s with path := { s.path with cursor := some ⟨g.seq, g.len⟩, speedSq := v }, axes := { s.axes with x := x, y := y } }

/-- The cursor arrives at the end of the ACTIVE segment, which is completed there. -/
theorem exec_segmentCompletion (hl : Live s) (hm : s.setups.setup = some m) (hp : s.path.cursor = some p)
    (hg : s.cursorSegment = some g) (hdir : s.path.dir = .forward) (hmotion : s.path.motion ≠ .rest)
    (hstate : g.state = .active) :
    ∃ v x y, x.command = (g.pointAt g.len).x ∧ y.command = (g.pointAt g.len).y
      ∧ exec .segmentCompletion s = .next (
        if g.cls = .traverse then completeTraverse g.seq (atEnd g v x y s) else completeJet g (atEnd g v x y s)) := by
  obtain ⟨v, x, y, arrived, there⟩ := arriveAtEnd_moves m p g s
  have found : s.segment? p.seq = some g := by
    rw [State.cursorSegment, hp] at hg
    exact hg
  have number := segment?_seq found
  obtain ⟨hx, hy⟩ := there g (by rw [number]; exact found)
  refine ⟨v, x, y, hx, hy, congrArg Host.Outcome.next ((live_live s _ hl).trans ?_)⟩
  rw [segmentCompleted, hm, hp, hg]
  dsimp only
  rw [if_neg (by simp [hdir, hmotion]), hstate]
  dsimp only
  rw [arrived]
  rfl

/-- With no TAB entered or left the jet stays (R108). -/
theorem followClass_noTab {cls : SegClass} (hc : cls ≠ .tab) (hj : s.jet.state ≠ .tab) : followClass cls s = s := by
  unfold followClass
  split
  · exact absurd rfl hc
  · next h => exact absurd h hj
  · next h => exact absurd h hj
  · next h => exact absurd h hj
  · next h => exact absurd h hj
  · rfl

theorem segmentAfter_later (h : segmentAfter s g.seq = some n) : g.seq < n.seq :=
  of_decide_eq_true (List.find?_some (p := fun x : Segment => decide (g.seq < x.seq)) h)

/-- Settles O46. -/
theorem segmentsComplete : Obligations.SegmentsComplete := by
  refine ⟨fun m c r p g s hl hs hm hc hr hp hg hcontour hstate hdir hmotion => ?_,
    fun m c r p g s hl hs hm hc hr hp hg hcontour hstate hcls hdir hmotion hrun ha hhead => ?_⟩
  · obtain ⟨v, x, y, hx, hy, arrived⟩ := exec_segmentCompletion hl hm hp hg hdir hmotion hstate
    have isJet (h : g.cls.isJet = true) : g.cls ≠ .traverse := fun e => by
      rw [e] at h
      cases h
    refine ⟨?_, fun n f js pd hjet hn hplanned hf hc' hv hne hband => ?_, fun hjet hn hrun ha hz => ?_,
      fun n hcls hhead hn htraverse hrun ha => ?_⟩
    · intro n hjet hn hplanned htab hnotab retained gone
      have later := segmentAfter_later hn
      refine ⟨_, arrived.trans (congrArg _ ((if_neg (isJet hjet)).trans ((completeJet_next (m := m) (c := c) (r := r) (n := n)
        (by exact hs) (by exact hm) (by exact hc) (by exact hr) (by exact hn) hplanned).trans
        (followClass_noTab htab (by exact hnotab))))), ?_, rfl, rfl, hx, hy, ?_, rfl, rfl, rfl, rfl, rfl⟩
      · simp [State.contour?, nextBegun, jetCompleted]
      · exact congrArg (fun segs => { s.prog with
          contours := s.prog.contours.set c (some { r with completed := r.completed + 1, lengthDone := r.lengthDone + g.len })
          segments := segs }) (completed_segments m c s later.ne)
    · have set : (jetCompleted m c r g s).activeSet = some f :=
        (activeSet_record (r' := { r with completed := r.completed + 1, lengthDone := r.lengthDone + g.len }) hc hr rfl).trans hf
      refine ⟨_, arrived.trans (congrArg _ ((if_neg (isJet hjet)).trans ((completeJet_next (m := m) (c := c) (r := r) (n := n)
        (by exact hs) (by exact hm) (by exact hc) (by exact hr) (by exact hn) hplanned).trans
        (followClass_changes (m := m) (f := f) (by exact hm) (by exact hv) (by exact set) (by exact hc') (by exact hne)
          (by exact hband))))), ?_, rfl, rfl, rfl, rfl⟩
      simp [State.contour?, nextBegun, jetCompleted]
    · have ended := endJets_running (s := jetCompleted m c r g (atEnd g v x y s)) hrun ha
      obtain ⟨b, retracts⟩ := beginRetract_moves (m := m) (s := clearCursor (jetCompleted m c r g (atEnd g v x y s))) hm hz
      refine ⟨_, arrived.trans (congrArg _ ((if_neg (isJet hjet)).trans ((completeJet_last (m := m) (c := c) (r := r)
        (by exact hs) (by exact hm) (by exact hc) (by exact hr) (by exact hn)).trans (ended.trans retracts)))),
        rfl, rfl, hc, rfl, rfl, Jet.shut_atRest _ _, rfl, rfl, ?_⟩
      simp [State.contour?, clearCursor, State.onPath, jetCompleted]
    · refine ⟨_, arrived.trans (congrArg _ ((if_pos hcls).trans (completeTraverse_next (c := c) (n := n) (by exact hs)
        (by exact hc) (by exact hhead) (by exact hn) htraverse (advancing_iff.mpr ⟨by exact hrun, by exact ha⟩)))),
        rfl, rfl, hx, hy, rfl⟩
  · obtain ⟨v, x, y, hx, hy, arrived⟩ := exec_segmentCompletion hl hm hp hg hdir hmotion hstate
    have phased {ph : Option Phase} : { s.cyc with mstate := .running, phase := ph } = { s.cyc with phase := ph } := by rw [← hrun]
    have ended (hn : ∀ n, (s.segmentsOf c)[1]? = some n → n.cls ≠ .traverse) : exec .segmentCompletion s
        = .next (enterProbe (traversesEnded g (atEnd g v x y s))) :=
      arrived.trans (congrArg _ ((if_pos hcls).trans (completeTraverse_last (c := c) (by exact hs) (by exact hc)
        (by exact hhead) (by exact hn) (advancing_iff.mpr ⟨by exact hrun, by exact ha⟩))))
    obtain ⟨b, probe, carry⟩ := enterProbe_mode (s := traversesEnded g (atEnd g v x y s)) (activeContour_some hc hr)
    refine ⟨fun hn hmode hcontact => ?_, fun hn hmode hcontact => ?_, fun n f hn hjet hmode hf => ?_⟩
    · refine ⟨_, (ended hn).trans (congrArg _ ((probe hmode).trans (startDescent_clear (m := m) (by exact hm)
        (by exact hcontact)))), ?_, rfl, rfl, rfl, rfl⟩
      exact phased
    · have fault := faultAction_taken (probeEntered b (traversesEnded g (atEnd g v x y s))) .collision nofun
      refine ⟨_, (ended hn).trans (congrArg _ ((probe hmode).trans (startDescent_struck (m := m) (by exact hm)
        (by exact hcontact)))), ?_⟩
      rw [fault]
      exact ⟨rfl, rfl, contour_abandoned hc hr, segments_abandoned hc, Jet.shut_atRest _ _⟩
    · intro height haway
      have next (n' : Segment) (hn' : (s.segmentsOf c)[1]? = some n') : n'.cls ≠ .traverse := by
        obtain rfl := Option.some.inj (hn.symm.trans hn')
        exact hjet
      have first : ((s.dropSegments fun x => x.seq == g.seq).segmentsOf c).head? = some n := by
        rw [dropped_segmentsOf hs hhead, List.head?_tail, hn]
      have set : (surfaceCarried c r (probeEntered b (traversesEnded g (atEnd g v x y s)))).activeSet = some f :=
        (activeSet_record (s := probeEntered b (traversesEnded g (atEnd g v x y s)))
          (r' := { r with surfaceZ := s.cyc.surface }) hc hr rfl).trans hf
      have charged : chargeOf (traversesEnded g (atEnd g v x y s)) = f.pPierce := by
        have same : (traversesEnded g (atEnd g v x y s)).activeSet = some f := hf
        rw [chargeOf, same]
        rfl
      have record : (surfaceCarried c r (probeEntered b (traversesEnded g (atEnd g v x y s)))).contour? c
          = some { r with surfaceZ := s.cyc.surface } := surfaceCarried_contour _ _ _
      obtain ⟨x', y', begun, there⟩ := enterPierce_begins (g := n) (f := f)
        (s := surfaceCarried c r (probeEntered b (traversesEnded g (atEnd g v x y s))))
        (activeJets_first hc first hjet) rfl set rfl charged
      have moves := beginPierce_moves (m := m) (r := { r with surfaceZ := s.cyc.surface }) (f := f) (z := height) (s := {
          surfaceCarried c r (probeEntered b (traversesEnded g (atEnd g v x y s))) with
        cyc := { s.cyc with mstate := .running, phase := some .pierce }
        path := { s.path with cursor := some ⟨n.seq, 0⟩, speedSq := 0, motion := .rest }
        axes := { s.axes with x := x', y := y' }
        prog := { (surfaceCarried c r (probeEntered b (traversesEnded g (atEnd g v x y s)))).prog with
          segments := (s.prog.segments.filter fun x => x.seq != g.seq).map fun x =>
            if x.seq = n.seq then { x with state := .active } else x } })
        hm (activeContour_some hc record) set rfl haway
      obtain ⟨hx', hy'⟩ := there n (find?_seq_of_mem (hs.1.sublist (List.filter_sublist.map _))
        (List.mem_filter.mp (List.mem_of_mem_head? first)).1)
      refine ⟨_, (ended next).trans (congrArg _ ((carry hmode c hc hr).trans (begun.trans moves))), ?_, record, rfl, rfl, ?_,
        hx', hy', rfl⟩
      · exact phased
      · rw [← charged]
        rfl

end Sys2Proof.Proofs
end

section
/-! THE REJOIN POINT AND BACKUP (O39). The walk back over a list of segments, and the RESUME of a hold in CUT up to BACKUP,
or to KERF_START from a stop point that is the rejoin point. -/

namespace Sys2Proof.Proofs

open Sys2Proof.Machine

variable {s t : State} {h : HoldRecord} {m : MachineSetup} {r : Contour} {f : ProcessSet} {g : Segment}

/-! ### The walk back (R140) -/

/-- Where the walk over a list of segments, newest first, ends: `b` micrometres back, or at the start of the oldest. -/
def WalksBack (segs : List Segment) (off b : Nat) : Prop :=
  ∃ (k d : Nat) (g : Segment), segs[k]? = some g ∧ walkBack segs off b = some ⟨g.seq, d⟩
    ∧ off + (((segs.take (k + 1)).tail).map (·.len)).sum = d + min b (off + ((segs.tail).map (·.len)).sum)
    ∧ (∀ g0, segs.head? = some g0 → off ≤ g0.len → d ≤ g.len) ∧ (1 ≤ k → 1 ≤ g.len → d < g.len)

/-- A walk that ends on the newest segment. -/
theorem walksBack_here {rest : List Segment} {off b : Nat} (hw : walkBack (g :: rest) off b = some ⟨g.seq, off - b⟩)
    (hb : b ≤ off ∨ rest = []) : WalksBack (g :: rest) off b := by
  refine ⟨0, off - b, g, rfl, hw, ?_, fun g0 h0 hoff => ?_, by omega⟩
  · have enough : min b (off + ((g :: rest).tail.map (·.len)).sum) = min b off := by
      obtain hb | rfl := hb
      · omega
      · simp
    rw [enough]
    simp only [List.take_succ_cons, List.take_zero, List.tail_cons, List.map_nil, List.sum_nil]
    omega
  · obtain rfl := Option.some.inj h0
    omega

/-- A walk that goes on past the newest segment, from the end of the one before it. -/
theorem walksBack_on {n : Segment} {rest : List Segment} {off b : Nat} (hb : off < b)
    (ih : WalksBack (n :: rest) n.len (b - off)) : WalksBack (g :: n :: rest) off b := by
  obtain ⟨k, d, e, he, hw, hsum, hlow, hstrict⟩ := ih
  refine ⟨k + 1, d, e, he, ?_, ?_, fun _ _ _ => hlow n rfl le_rfl, fun _ hlen => ?_⟩
  · rw [walkBack, if_neg (by omega), hw]
  · simp only [List.take_succ_cons, List.tail_cons, List.map_cons, List.sum_cons] at hsum ⊢
    omega
  · cases k with
    | zero =>
      obtain rfl : n = e := Option.some.inj he
      simp only [List.take_succ_cons, List.take_zero, List.tail_cons, List.map_nil, List.sum_nil] at hsum
      omega
    | succ k => exact hstrict (by omega) hlen

theorem walksBack : ∀ (segs : List Segment) (off b : Nat), segs ≠ [] → WalksBack segs off b
  | [], _, _, hne => absurd rfl hne
  | [_], _, _, _ => walksBack_here rfl (.inr rfl)
  | _ :: n :: rest, off, b, _ => by
    by_cases hb : b ≤ off
    · exact walksBack_here (if_pos hb) (.inl hb)
    · exact walksBack_on (by omega) (walksBack (n :: rest) n.len (b - off) (List.cons_ne_nil _ _))

/-! ### RESUME in CUT (R139, R141) -/

/-- BACKUP started toward a rejoin point: the record written, the cursor at the stop point in REVERSE. -/
def backingTo (h : HoldRecord) (close : Option Pos) (target stop : Pos) (s : State) : State :=
  { s with
    cyc := { s.cyc with mstate := .resuming, phase := some .cut
                        hold := some { h with jetClose := close, rejoin := some target, step := some .backup } }
    path := { s.path with cursor := some stop, dir := .reverse, speedSq := 0, motion := .run } }

theorem beginBackup_from (hh : s.cyc.hold = some h) {stop : Pos} (hs : h.stop = some stop) (close : Option Pos) (target : Pos)
    (hf : s.activeSet = some f) (hj : s.jet.state = .closed) (hd : s.jet.demand = 0) :
    ∃ x y, beginBackup close target s = { backingTo h close target stop s with axes := { s.axes with x := x, y := y } } := by
  have from_stop : (s.cyc.hold.bind (·.stop)).getD target = stop := by rw [hh, Option.bind_some, hs]; rfl
  have written : (s.onCyc fun c => { c with hold := c.hold.map fun h =>
      { h with jetClose := close, rejoin := some target, step := some .backup } })
      = { s with cyc := { s.cyc with
          hold := some { h with jetClose := close, rejoin := some target, step := some .backup } } } :=
    congrArg (fun o : Option HoldRecord => { s with cyc := { s.cyc with hold := o } }) (congrArg (Option.map fun h : HoldRecord =>
      { h with jetClose := close, rejoin := some target, step := some .backup }) hh)
  have demand (u : State) (hset : u.activeSet = some f) (hclosed : u.jet.state = .closed) (hp : preCharge u.cyc = false) :
      demandOf u = 0 := by
    rw [demandOf, hset, hclosed]
    exact if_neg (by rw [hp]; decide)
  have entered := (enterState_open { s with cyc := { s.cyc with
          hold := some { h with jetClose := close, rejoin := some target, step := some .backup } } } .resuming (some .cut)
    (valvesAllowed_iff _ |>.mpr ⟨.inr rfl, .inr rfl⟩)).trans
    (reformDemand_same ((demand _ (by exact hf) (by exact hj) rfl).trans hd.symm))
  obtain ⟨x, y, jumped, -⟩ := jumpCursor_xy stop { backingTo h close target stop s with
    path := { s.path with dir := .reverse, speedSq := 0, motion := .run } }
  refine ⟨x, y, ?_⟩
  rw [beginBackup]
  dsimp only
  rw [from_stop, written, entered]
  exact jumped

/-- The jet-close point as a RESUME leaves it, and the rejoin point (R139, R140). -/
theorem resumeCut_backs {jc : Pos} (hr : s.activeContour = some r) (hf : s.activeSet = some f)
    (hg : s.activeJets.head? = some g) (hc : h.jetClose = some jc) {jc' : Pos}
    (hj : jc' = if jc.behind ⟨g.seq, 0⟩ then ⟨g.seq, 0⟩ else jc) :
    resumeCut h s = beginBackup (some (if r.pierceComplete then jc' else jc))
      (if r.pierceComplete then
        (walkBack (s.activeJets.reverse.filter fun x => x.seq ≤ jc'.seq) jc'.dist f.backup).getD jc'
      else ⟨g.seq, 0⟩) s := by
  have bound : lowerBound s = some ⟨g.seq, 0⟩ := by rw [lowerBound, hg]; rfl
  have kept : keptClose s ((h.jetClose).getD ⟨g.seq, 0⟩) = jc' := by
    rw [keptClose, bound, hc, hj]
    rfl
  rw [resumeCut, bound, hf]
  dsimp only
  rw [pierced_iff hr, kept, hc]
  cases r.pierceComplete <;> rfl

/-- A RESUME in CUT that passes: the reply is formed before BACKUP goes on. -/
theorem exec_resume_cut {tag : Byte} (htakes : Takes s .pendant .resume) (hm : s.cyc.mstate = .held)
    (hh : s.cyc.hold = some h) (hc : CauseGone h s.lines) (hp : h.phase = .cut) (ht : resumeCut h (frameEnded .pendant s) = t) :
    exec (.resume .pendant tag) s = .next (reachedAtOnce (sendReply .pendant tag .ok [] t)) := by
  have entered : resumeEntered h (frameEnded .pendant s) = t := by rw [resumeEntered, hp]; exact ht
  have answered := answerResume_passes (s := frameEnded .pendant s) hm hh hc
  rw [entered, if_pos hp, hp] at answered
  exact congrArg Host.Outcome.next (serve_then htakes answered)

/-- A BACKUP whose target is not where the cursor stands goes on. -/
theorem reachedAtOnce_away (h : s.path.cursor ≠ s.cyc.hold.bind (·.rejoin)) : reachedAtOnce s = s := if_neg h

/-- Settles O39. -/
theorem resumeBacksUp : Obligations.ResumeBacksUp := by
  refine ⟨?_, walksBack⟩
  intro tag h g f r jc stop target s htakes hm hh hp hc hr hf hg hclose hstop hj hd jc' htarget record
  have backs := resumeCut_backs (s := frameEnded .pendant s) (g := g) hr hf hg hclose (jc' := jc') rfl
  obtain ⟨x, y, begun⟩ := beginBackup_from (s := frameEnded .pendant s) hh hstop (some (if r.pierceComplete then jc' else jc))
    target hf hj.1 hd
  have sent := exec_resume_cut (tag := tag) htakes hm hh hc hp (backs.trans
    ((congrArg (fun q => beginBackup _ q (frameEnded .pendant s)) htarget.symm).trans begun))
  refine ⟨fun hne => ?_, fun m htarget' hpierced ha hsetup hpump hcut hband hdelay => ?_⟩
  · refine ⟨_, sent.trans (congrArg _ (reachedAtOnce_away ?_)), rfl, rfl⟩
    exact fun e => hne (Option.some.inj e)
  · subst htarget'
    obtain ⟨x', y', reached⟩ := targetReached_backup (s := sendReply .pendant tag .ok [] { backingTo h
        (some (if r.pierceComplete then jc' else jc)) stop stop (frameEnded .pendant s) with
      axes := { s.axes with x := x, y := y } }) rfl ha rfl rfl rfl rfl
    have opened := kerfStart_opens (m := m) (f := f) (s := atTarget stop x' y' (sendReply .pendant tag .ok [] { backingTo h
        (some (if r.pierceComplete then jc' else jc)) stop stop (frameEnded .pendant s) with
      axes := { s.axes with x := x, y := y } })) hsetup (valvesAllowed_iff _ |>.mpr ⟨.inr rfl, .inr rfl⟩) hf rfl hj hd hpump
      hcut hband hdelay
    refine ⟨{ frameEnded .pendant s with
        cyc := { s.cyc with mstate := .resuming, phase := some .cut, hold := some { record with step := some .kerfStart } }
        path := { s.path with cursor := some stop, dir := .reverse, speedSq := 0, motion := .rest }
        jet := { s.jet with
          state := .cut, demand := f.pCut, bandIn := false, settle := .running m.settleLimit
          abrasiveDelay := .running m.abrasiveDelay }
        axes := { s.axes with x := x', y := y' } }, sent.trans (congrArg _ ((if_pos rfl).trans (reached.trans
      ((if_pos ((pierced_iff (by exact hr)).trans hpierced)).trans opened)))), rfl, rfl⟩

end Sys2Proof.Proofs
end
